-- ==== Sys2Proof/Word.lean ====
section
/-!
DEFINITION. The data every layer is built from: bytes, 32-bit words, and arrays of a fixed size.
-/

namespace Sys2Proof

/-- A byte: an unsigned 8-bit value (00_scope.md R9). -/
abbrev Byte := BitVec 8

/-- A word: an unsigned 32-bit value (00_scope.md R9); `+` on words is modulo 2^32
(40_gf256_arithmetic.md R122). -/
abbrev Word := BitVec 32

/-- An array of exactly `n` entries (10_state.md R44: "A model uses fixed-size vectors"). The size is
carried by the value, so an array of another size cannot be built. -/
structure Vec (α : Type) (n : Nat) where
  /-- The entries, entry 0 first. -/
  toList : List α
  /-- There are exactly `n` of them. -/
  size_eq : toList.length = n
  deriving DecidableEq, Repr

end Sys2Proof
end

