-- ==== Sys2Proof/Machine/Bus.lean ====
section
/-!
DEFINITION. What passes between the hosts, the platform and the engine: transactions, responses, and
the events a run is made of (20_memory.md R60, R81).
-/

namespace Sys2Proof.Machine

/-- A byte offset from `BASE`, 0 to 0x1FFF: the low 13 address bits (20_memory.md R60, R62). A
transaction at another address never reaches the engine (R62, log 3). -/
abbrev Offset := BitVec 13

/-- A transaction on the register window (20_memory.md R60). It does not say which bus master issued
it: the engine does not know (R76). -/
inductive Transaction where
  /-- `MemRead(off, size)`. -/
  | read (off : Offset) (size : Nat)
  /-- `MemWrite(off, size, wdata)`; `wdata` is a number of `8 * size` bits. -/
  | write (off : Offset) (size : Nat) (wdata : Nat)
  deriving DecidableEq, Repr

/-- The answer to a transaction (20_memory.md R60). -/
inductive Resp where
  /-- `OKAY`: accepted. -/
  | okay
  /-- `BUSERR`: refused, with no state change (20_memory.md R66). -/
  | buserr
  deriving DecidableEq, Repr

/-- A response `(resp, rdata)` (20_memory.md R60); a write has no read data. -/
inductive Response where
  /-- Response to a read; `rdata` is 0 when `resp` is `BUSERR` (20_memory.md R66). -/
  | read (resp : Resp) (rdata : Word)
  /-- Response to a write. -/
  | write (resp : Resp)
  deriving DecidableEq, Repr

/-- One step of a run: "a step is either a reset or the service of one transaction"
(20_memory.md R81). -/
inductive Event where
  /-- `rst` is asserted and released (70_reset_and_hazards.md R310). -/
  | reset
  /-- The engine serves one transaction. -/
  | serve (t : Transaction)
  deriving DecidableEq, Repr

end Sys2Proof.Machine
end

