-- ==== Sys2Proof/Syntax.lean ====
section
/-!
DEFINITION. The command set: one constructor per row of the opcode table (30_encoding.md R95).
-/

namespace Sys2Proof

/-- The four commands of the engine (30_encoding.md R95, R101). No command carries a register number
or a mode (R90). -/
inductive Instr where
  /-- `KSCHED len`: derive a Schedule from the first `len` bytes of the key in `KEYW`
  (42_key_schedule.md R160). `len` is the field `LEN`, the key length in bytes (30_encoding.md R94). -/
  | ksched (len : Nat)
  /-- `ENC`: encrypt the block in `DIN` into `DOUT` (44_block_transform.md R216). -/
  | enc
  /-- `DEC`: decrypt the block in `DIN` into `DOUT` (44_block_transform.md R220). -/
  | dec
  /-- `ZEROIZE`: discard the key, the block registers and the Schedule (45_control_commands.md R240). -/
  | zeroize
  deriving DecidableEq, Repr

end Sys2Proof
end

