-- ==== Sys2Proof/WellFormed.lean ====
section
/-!
DEFINITION. Which commands and which transactions can exist: the ranges of their fields.
-/

namespace Sys2Proof

/-- A command whose `LEN` fits the 8-bit field of the command word (30_encoding.md R94: "an unsigned
number 0 to 255"). A `LEN` that is no key length is well formed; the command itself rejects it. -/
def Instr.wf : Instr → Bool
  | .ksched len => decide (len < 256)
  | .enc => true
  | .dec => true
  | .zeroize => true

/-- A transaction whose write data is a number of `8 * size` bits (20_memory.md R60: "`size` a number
of bytes, and for a write the data `wdata`"). -/
def Machine.Transaction.wf : Machine.Transaction → Bool
  | .read _ _ => true
  | .write _ size wdata => decide (wdata < 2 ^ (8 * size))

/-- An event whose transaction is well formed. -/
def Machine.Event.wf : Machine.Event → Bool
  | .reset => true
  | .serve t => t.wf

end Sys2Proof
end

