-- ==== Sys2Proof/Decode.lean ====
section
/-!
DEFINITION. The command word: its fields, the decoder, the opcode map, and the encoder
(30_encoding.md R90 to R102).
-/

namespace Sys2Proof

/-- Field `OP`, bits 7:0 of the command word (30_encoding.md R90). -/
def opField (w : Word) : Byte := w.extractLsb' 0 8

/-- Field `LEN`, bits 15:8 of the command word (30_encoding.md R90). -/
def lenField (w : Word) : Byte := w.extractLsb' 8 8

/-- Field `RSV`, bits 31:16 of the command word (30_encoding.md R90). -/
def rsvField (w : Word) : BitVec 16 := w.extractLsb' 16 16

/-- Why a command word is illegal, in the cases of 30_encoding.md R100. All of them have the one
effect `IllegalCommand`. -/
inductive IllegalWord where
  /-- `RSV` is not zero, with any `OP`. -/
  | rsvNonzero
  /-- `OP` is 0x02, 0x03 or 0x04 and `LEN` is not zero. -/
  | lenNonzero
  /-- `OP` is 0x00 or 0x05 to 0xFF. -/
  | opUnassigned
  deriving DecidableEq, Repr

/-- A command whose `LEN` must be 0 (30_encoding.md R90, R92). -/
def decodePlain (i : Instr) (len : Byte) : Except IllegalWord Instr :=
  if len = 0 then .ok i else .error .lenNonzero

/-- Decoding a command word, in the order of 30_encoding.md R92. It reads no state and maps every
word to a command or to an illegal word (R101). -/
def decode (w : Word) : Except IllegalWord Instr :=
  if rsvField w ≠ 0 then .error .rsvNonzero
  else if opField w = 0x01 then .ok (.ksched (lenField w).toNat)
  else if opField w = 0x02 then decodePlain .enc (lenField w)
  else if opField w = 0x03 then decodePlain .dec (lenField w)
  else if opField w = 0x04 then decodePlain .zeroize (lenField w)
  else .error .opUnassigned

/-- The instruction the decoder reads from the bits `w` of a command word; a command is one 32-bit
word (30_encoding.md R90, R102), whose value is a number (20_memory.md R64). -/
def decodeTableWord (nbits w : Nat) : Option Instr :=
  match decode (BitVec.ofNat 32 (w % 2 ^ nbits)) with
  | .ok i => some i
  | .error _ => none

/-- The command word of a command: `OP` in bits 7:0, `LEN` in bits 15:8, `RSV` = 0
(30_encoding.md R90, R95). -/
def encode : Instr → Word
  | .ksched len => 0x00000001 ||| (BitVec.ofNat 32 len <<< 8)
  | .enc => 0x00000002
  | .dec => 0x00000003
  | .zeroize => 0x00000004

/-- A row of the opcode map: a word is the row's command exactly when `(w & mask) = match`
(30_encoding.md R95). -/
structure OpcodeRow where
  /-- The row's mnemonic. -/
  mnemonic : String
  /-- The row's `match`. -/
  pattern : Word
  /-- The row's `mask`. -/
  mask : Word
  deriving DecidableEq, Repr

/-- The word `w` matches the row (30_encoding.md R95). -/
def OpcodeRow.selects (r : OpcodeRow) (w : Word) : Bool := w &&& r.mask == r.pattern

/-- The opcode map of 30_encoding.md R95, row by row. -/
def opcodeMap : List OpcodeRow := [
  ⟨"KSCHED", 0x00000001, 0xFFFF00FF⟩,
  ⟨"ENC", 0x00000002, 0xFFFFFFFF⟩,
  ⟨"DEC", 0x00000003, 0xFFFFFFFF⟩,
  ⟨"ZEROIZE", 0x00000004, 0xFFFFFFFF⟩]

/-- The mnemonic of a command (30_encoding.md R95). -/
def Instr.mnemonic : Instr → String
  | .ksched _ => "KSCHED"
  | .enc => "ENC"
  | .dec => "DEC"
  | .zeroize => "ZEROIZE"

end Sys2Proof
end

