-- ==== Sys2Proof/Config.lean ====
section
/-!
DEFINITION. The parameters of the engine: the fixed constants of 00_scope.md R7, and the three open
parameters of 00_scope.md R8 as constants without a value.
-/

namespace Sys2Proof

/-- Bytes per block (00_scope.md R7). -/
def Config.BLOCK_BYTES : Nat := 16

/-- Width of every schedule word and working word (00_scope.md R7). -/
def Config.WORD_BITS : Nat := 32

/-- Feistel rounds, processed as 8 pairs (00_scope.md R7). -/
def Config.ROUNDS : Nat := 16

/-- The accepted key lengths in bytes (00_scope.md R7, 42_key_schedule.md R161). -/
def Config.KEY_BYTES : List Nat := [8, 16, 24, 32]

/-- The longest key in bytes (00_scope.md R7). -/
def Config.MAX_KEY_BYTES : Nat := 32

/-- Words of `SBOXKEY` (00_scope.md R7). -/
def Config.SBOXKEY_WORDS : Nat := 4

/-- Words of `SUBKEY` (00_scope.md R7). -/
def Config.TOTAL_SUBKEYS : Nat := 40

/-- First index of the input-whitening subkeys (00_scope.md R7). -/
def Config.INPUT_WHITEN : Nat := 0

/-- First index of the output-whitening subkeys (00_scope.md R7). -/
def Config.OUTPUT_WHITEN : Nat := 4

/-- First index of the round subkeys (00_scope.md R7). -/
def Config.ROUND_SUBKEYS : Nat := 8

/-- Words of `XSBOX` (00_scope.md R7). -/
def Config.XSBOX_WORDS : Nat := 1024

/-- Step of `q` per subkey pair (00_scope.md R7, 42_key_schedule.md R164). -/
def Config.SK_STEP : Nat := 0x02020202

/-- Offset of the odd-keyed F32 input (00_scope.md R7, 42_key_schedule.md R164). -/
def Config.SK_BUMP : Nat := 0x01010101

/-- Left rotate of the odd subkey word (00_scope.md R7, 42_key_schedule.md R164). -/
def Config.SK_ROTL : Nat := 9

/-- Reduction polynomial of the Reed-Solomon field (00_scope.md R7, 40_gf256_arithmetic.md R124). -/
def Config.RS_GF_FDBK : Nat := 0x14D

/-- Reduction polynomial of the MDS field (00_scope.md R7, 40_gf256_arithmetic.md R124). -/
def Config.MDS_GF_FDBK : Nat := 0x169

/-- Filler byte of the host's buffer wrapper, host software only (00_scope.md R7,
46_host_software.md R255). -/
def Config.PAD_BYTE : Byte := 0xFF

/-- Size of the register window in bytes (20_memory.md R61, R62). -/
def Config.WINDOW_BYTES : Nat := 0x2000

/-- Which multiple of the window size the platform chose; the platform's open choice, without a
value (00_scope.md R8, log 5). -/
opaque Config.windowIndex : Nat

/-- Platform address of the register window, a multiple of 0x2000 (00_scope.md R8, 20_memory.md R62,
log 5). -/
def Config.BASE : Nat := Config.WINDOW_BYTES * Config.windowIndex

/-- Latency of `KSCHED` in clock cycles, open; no rule depends on it (00_scope.md R8, log 5). -/
opaque Config.T_KSCHED : Nat

/-- Latency of `ENC` and `DEC` in clock cycles, open; no rule depends on it (00_scope.md R8, log 5). -/
opaque Config.T_BLK : Nat

end Sys2Proof
end

