-- ==== Sys2Proof/Machine/Arith.lean ====
section
/-!
DEFINITION. Word operations and the GF(256) primitives: rotates, byte lanes, the linear-feedback
functions, the diffusion multipliers and the Reed-Solomon steps (40_gf256_arithmetic.md).
All are pure and total (00_scope.md R15).
-/

namespace Sys2Proof.Machine

/-- Rotate left; the amount wraps modulo 32 (40_gf256_arithmetic.md R120). -/
def rotl32 (x : Word) (n : Nat) : Word :=
  if n % 32 = 0 then x else (x <<< (n % 32)) ||| (x >>> (32 - n % 32))

/-- Rotate right; the amount wraps modulo 32 (40_gf256_arithmetic.md R120). -/
def rotr32 (x : Word) (n : Nat) : Word :=
  if n % 32 = 0 then x else (x >>> (n % 32)) ||| (x <<< (32 - n % 32))

/-- Byte lane `j` of a word, `bj(x)`: bits `8j + 7` down to `8j` (00_scope.md R9). -/
def lane (j : Fin 4) (x : Word) : Byte := x.extractLsb' (8 * j.val) 8

/-- A byte widened to a word with zeros, `zext_32` (00_scope.md R9). -/
def zext (y : Byte) : Word := y.setWidth 32

/-- The word of four bytes, `y0` least significant (40_gf256_arithmetic.md R121). -/
def word (y0 y1 y2 y3 : Byte) : Word :=
  zext y0 ||| (zext y1 <<< 8) ||| (zext y2 <<< 16) ||| (zext y3 <<< 24)

/-- The four bytes of a word, least significant first (40_gf256_arithmetic.md R121). -/
def wordBytes (x : Word) : List Byte := [lane 0 x, lane 1 x, lane 2 x, lane 3 x]

/-- One of the eight turns of `gfmul`: `r` gathers, `u` is shifted up and reduced, `v` shifted down
(40_gf256_arithmetic.md R124). -/
def gfmulLoop (p : Nat) : (turns : Nat) → (r u v : Nat) → Nat
  | 0, r, _, _ => r
  | turns + 1, r, u, v =>
    gfmulLoop p turns
      (if v % 2 = 1 then r ^^^ u else r)
      (if (u <<< 1) &&& 0x100 ≠ 0 then (u <<< 1) ^^^ p else u <<< 1)
      (v >>> 1)

/-- Multiplication of two bytes in the field with reduction polynomial `p`; for checking, no unit of
the engine (40_gf256_arithmetic.md R124). -/
def gfmul (u v : Byte) (p : Nat) : Byte := BitVec.ofNat 8 (gfmulLoop p 8 0 u.toNat v.toNat)

/-- One-step linear-feedback shift: division by `a` in the MDS field (40_gf256_arithmetic.md R125). -/
def lfsr1 (x : Byte) : Byte := (x >>> 1) ^^^ (if x &&& 0x01 = 0 then 0x00 else 0xB4)

/-- Two-step linear-feedback shift: division by `a^2` in the MDS field
(40_gf256_arithmetic.md R126). -/
def lfsr2 (x : Byte) : Byte :=
  (x >>> 2) ^^^ (if x &&& 0x02 = 0 then 0x00 else 0xB4) ^^^ (if x &&& 0x01 = 0 then 0x00 else 0x5A)

/-- The identity multiplier (40_gf256_arithmetic.md R127). -/
def mul1 (x : Byte) : Byte := x

/-- Multiplication by 0x5B in the MDS field (40_gf256_arithmetic.md R127). -/
def mulX (x : Byte) : Byte := x ^^^ lfsr2 x

/-- Multiplication by 0xEF in the MDS field (40_gf256_arithmetic.md R127). -/
def mulY (x : Byte) : Byte := x ^^^ lfsr1 x ^^^ lfsr2 x

/-- `g2` of `rsRemainder`: the byte shifted out times 2 in the RS field, computed on 9 bits and masked
to a byte (40_gf256_arithmetic.md R128). -/
def rsG2 (b : Byte) : Byte :=
  ((b.setWidth 9 <<< 1) ^^^ (if b &&& 0x80 = 0 then 0 else BitVec.ofNat 9 Config.RS_GF_FDBK)).setWidth 8

/-- `g3` of `rsRemainder`: the byte shifted out times 2 + 1/2 in the RS field
(40_gf256_arithmetic.md R128). -/
def rsG3 (b : Byte) : Byte := ((b >>> 1) ^^^ (if b &&& 0x01 = 0 then 0x00 else 0xA6)) ^^^ rsG2 b

/-- One division step of the (12,8) Reed-Solomon code (40_gf256_arithmetic.md R128). -/
def rsRemainder (x : Word) : Word :=
  (x <<< 8) ^^^ (zext (rsG3 (lane 3 x)) <<< 24) ^^^ (zext (rsG2 (lane 3 x)) <<< 16)
    ^^^ (zext (rsG3 (lane 3 x)) <<< 8) ^^^ zext (lane 3 x)

/-- Four `rsRemainder` steps (40_gf256_arithmetic.md R129). -/
def rsRemainder4 (x : Word) : Word := rsRemainder (rsRemainder (rsRemainder (rsRemainder x)))

/-- Reed-Solomon key derivation: one S-box key word from the even and the odd key word of an 8-byte
group (40_gf256_arithmetic.md R129). -/
def rsEncode (k0 k1 : Word) : Word := rsRemainder4 (rsRemainder4 k1 ^^^ k0)

/-- Row `r` of the 4 by 8 Reed-Solomon matrix, for checking (40_gf256_arithmetic.md R130). -/
def rsMatrixRow : Fin 4 → List Byte
  | 0 => [0x01, 0xA4, 0x55, 0x87, 0x5A, 0x58, 0xDB, 0x9E]
  | 1 => [0xA4, 0x56, 0x82, 0xF3, 0x1E, 0xC6, 0x68, 0xE5]
  | 2 => [0x02, 0xA1, 0xFC, 0xC1, 0x47, 0xAE, 0x3D, 0x19]
  | 3 => [0xA4, 0x55, 0x87, 0x5A, 0x58, 0xDB, 0x9E, 0x03]

/-- Byte lane `r` of the matrix form: the sum over the eight key bytes of the group, those of `k0`
first (40_gf256_arithmetic.md R130). -/
def rsMatrixLane (r : Fin 4) (k0 k1 : Word) : Byte :=
  (List.zipWith (fun m b => gfmul m b Config.RS_GF_FDBK) (rsMatrixRow r)
    (wordBytes k0 ++ wordBytes k1)).foldl (· ^^^ ·) 0

end Sys2Proof.Machine
end

