-- ==== Sys2Proof/Machine/Vec.lean ====
section
/-!
DEFINITION. Reading, writing and building arrays of a fixed size. Every index is in range by its
type, so no look-up can fail (20_memory.md R72).
-/

namespace Sys2Proof

/-- Element `i` of an array, element 0 first (00_scope.md R12). -/
def Vec.get {α : Type} {n : Nat} (a : Vec α n) (i : Fin n) : α :=
  a.toList.get ⟨i.val, by rw [a.size_eq]; exact i.isLt⟩

/-- The array with element `i` replaced, `NAME[i] <- v` (00_scope.md R12). -/
def Vec.set {α : Type} {n : Nat} (a : Vec α n) (i : Fin n) (v : α) : Vec α n :=
  ⟨a.toList.set i.val v, by rw [List.length_set, a.size_eq]⟩

/-- The array of `n` equal entries. -/
def Vec.replicate {α : Type} (n : Nat) (v : α) : Vec α n :=
  ⟨List.replicate n v, List.length_replicate⟩

/-- The array whose element `i` is `f i`. -/
def Vec.tabulate {α : Type} {n : Nat} (f : Fin n → α) : Vec α n :=
  ⟨List.ofFn f, List.length_ofFn⟩

end Sys2Proof
end

