-- ==== Sys2Proof/Machine/Tables.lean ====
section
/-!
DEFINITION. The fixed tables of the engine: the permutations `Q[0]` and `Q[1]`, the MDS matrix, and
`MDSQ` (41_fixed_tables.md). They are constants, not state (10_state.md R47). Their values are the
spec's, supplied by it from general knowledge of the published cipher (log 9).
-/

namespace Sys2Proof.Machine

/-- `Q[0]`, row `y div 16`, column `y mod 16` (41_fixed_tables.md R141). -/
def q0Rows : Vec (Vec Byte 16) 16 := ⟨[
  ⟨[0xA9, 0x67, 0xB3, 0xE8, 0x04, 0xFD, 0xA3, 0x76, 0x9A, 0x92, 0x80, 0x78, 0xE4, 0xDD, 0xD1, 0x38], rfl⟩,
  ⟨[0x0D, 0xC6, 0x35, 0x98, 0x18, 0xF7, 0xEC, 0x6C, 0x43, 0x75, 0x37, 0x26, 0xFA, 0x13, 0x94, 0x48], rfl⟩,
  ⟨[0xF2, 0xD0, 0x8B, 0x30, 0x84, 0x54, 0xDF, 0x23, 0x19, 0x5B, 0x3D, 0x59, 0xF3, 0xAE, 0xA2, 0x82], rfl⟩,
  ⟨[0x63, 0x01, 0x83, 0x2E, 0xD9, 0x51, 0x9B, 0x7C, 0xA6, 0xEB, 0xA5, 0xBE, 0x16, 0x0C, 0xE3, 0x61], rfl⟩,
  ⟨[0xC0, 0x8C, 0x3A, 0xF5, 0x73, 0x2C, 0x25, 0x0B, 0xBB, 0x4E, 0x89, 0x6B, 0x53, 0x6A, 0xB4, 0xF1], rfl⟩,
  ⟨[0xE1, 0xE6, 0xBD, 0x45, 0xE2, 0xF4, 0xB6, 0x66, 0xCC, 0x95, 0x03, 0x56, 0xD4, 0x1C, 0x1E, 0xD7], rfl⟩,
  ⟨[0xFB, 0xC3, 0x8E, 0xB5, 0xE9, 0xCF, 0xBF, 0xBA, 0xEA, 0x77, 0x39, 0xAF, 0x33, 0xC9, 0x62, 0x71], rfl⟩,
  ⟨[0x81, 0x79, 0x09, 0xAD, 0x24, 0xCD, 0xF9, 0xD8, 0xE5, 0xC5, 0xB9, 0x4D, 0x44, 0x08, 0x86, 0xE7], rfl⟩,
  ⟨[0xA1, 0x1D, 0xAA, 0xED, 0x06, 0x70, 0xB2, 0xD2, 0x41, 0x7B, 0xA0, 0x11, 0x31, 0xC2, 0x27, 0x90], rfl⟩,
  ⟨[0x20, 0xF6, 0x60, 0xFF, 0x96, 0x5C, 0xB1, 0xAB, 0x9E, 0x9C, 0x52, 0x1B, 0x5F, 0x93, 0x0A, 0xEF], rfl⟩,
  ⟨[0x91, 0x85, 0x49, 0xEE, 0x2D, 0x4F, 0x8F, 0x3B, 0x47, 0x87, 0x6D, 0x46, 0xD6, 0x3E, 0x69, 0x64], rfl⟩,
  ⟨[0x2A, 0xCE, 0xCB, 0x2F, 0xFC, 0x97, 0x05, 0x7A, 0xAC, 0x7F, 0xD5, 0x1A, 0x4B, 0x0E, 0xA7, 0x5A], rfl⟩,
  ⟨[0x28, 0x14, 0x3F, 0x29, 0x88, 0x3C, 0x4C, 0x02, 0xB8, 0xDA, 0xB0, 0x17, 0x55, 0x1F, 0x8A, 0x7D], rfl⟩,
  ⟨[0x57, 0xC7, 0x8D, 0x74, 0xB7, 0xC4, 0x9F, 0x72, 0x7E, 0x15, 0x22, 0x12, 0x58, 0x07, 0x99, 0x34], rfl⟩,
  ⟨[0x6E, 0x50, 0xDE, 0x68, 0x65, 0xBC, 0xDB, 0xF8, 0xC8, 0xA8, 0x2B, 0x40, 0xDC, 0xFE, 0x32, 0xA4], rfl⟩,
  ⟨[0xCA, 0x10, 0x21, 0xF0, 0xD3, 0x5D, 0x0F, 0x00, 0x6F, 0x9D, 0x36, 0x42, 0x4A, 0x5E, 0xC1, 0xE0], rfl⟩], rfl⟩

/-- `Q[1]`, row `y div 16`, column `y mod 16` (41_fixed_tables.md R142). -/
def q1Rows : Vec (Vec Byte 16) 16 := ⟨[
  ⟨[0x75, 0xF3, 0xC6, 0xF4, 0xDB, 0x7B, 0xFB, 0xC8, 0x4A, 0xD3, 0xE6, 0x6B, 0x45, 0x7D, 0xE8, 0x4B], rfl⟩,
  ⟨[0xD6, 0x32, 0xD8, 0xFD, 0x37, 0x71, 0xF1, 0xE1, 0x30, 0x0F, 0xF8, 0x1B, 0x87, 0xFA, 0x06, 0x3F], rfl⟩,
  ⟨[0x5E, 0xBA, 0xAE, 0x5B, 0x8A, 0x00, 0xBC, 0x9D, 0x6D, 0xC1, 0xB1, 0x0E, 0x80, 0x5D, 0xD2, 0xD5], rfl⟩,
  ⟨[0xA0, 0x84, 0x07, 0x14, 0xB5, 0x90, 0x2C, 0xA3, 0xB2, 0x73, 0x4C, 0x54, 0x92, 0x74, 0x36, 0x51], rfl⟩,
  ⟨[0x38, 0xB0, 0xBD, 0x5A, 0xFC, 0x60, 0x62, 0x96, 0x6C, 0x42, 0xF7, 0x10, 0x7C, 0x28, 0x27, 0x8C], rfl⟩,
  ⟨[0x13, 0x95, 0x9C, 0xC7, 0x24, 0x46, 0x3B, 0x70, 0xCA, 0xE3, 0x85, 0xCB, 0x11, 0xD0, 0x93, 0xB8], rfl⟩,
  ⟨[0xA6, 0x83, 0x20, 0xFF, 0x9F, 0x77, 0xC3, 0xCC, 0x03, 0x6F, 0x08, 0xBF, 0x40, 0xE7, 0x2B, 0xE2], rfl⟩,
  ⟨[0x79, 0x0C, 0xAA, 0x82, 0x41, 0x3A, 0xEA, 0xB9, 0xE4, 0x9A, 0xA4, 0x97, 0x7E, 0xDA, 0x7A, 0x17], rfl⟩,
  ⟨[0x66, 0x94, 0xA1, 0x1D, 0x3D, 0xF0, 0xDE, 0xB3, 0x0B, 0x72, 0xA7, 0x1C, 0xEF, 0xD1, 0x53, 0x3E], rfl⟩,
  ⟨[0x8F, 0x33, 0x26, 0x5F, 0xEC, 0x76, 0x2A, 0x49, 0x81, 0x88, 0xEE, 0x21, 0xC4, 0x1A, 0xEB, 0xD9], rfl⟩,
  ⟨[0xC5, 0x39, 0x99, 0xCD, 0xAD, 0x31, 0x8B, 0x01, 0x18, 0x23, 0xDD, 0x1F, 0x4E, 0x2D, 0xF9, 0x48], rfl⟩,
  ⟨[0x4F, 0xF2, 0x65, 0x8E, 0x78, 0x5C, 0x58, 0x19, 0x8D, 0xE5, 0x98, 0x57, 0x67, 0x7F, 0x05, 0x64], rfl⟩,
  ⟨[0xAF, 0x63, 0xB6, 0xFE, 0xF5, 0xB7, 0x3C, 0xA5, 0xCE, 0xE9, 0x68, 0x44, 0xE0, 0x4D, 0x43, 0x69], rfl⟩,
  ⟨[0x29, 0x2E, 0xAC, 0x15, 0x59, 0xA8, 0x0A, 0x9E, 0x6E, 0x47, 0xDF, 0x34, 0x35, 0x6A, 0xCF, 0xDC], rfl⟩,
  ⟨[0x22, 0xC9, 0xC0, 0x9B, 0x89, 0xD4, 0xED, 0xAB, 0x12, 0xA2, 0x0D, 0x52, 0xBB, 0x02, 0x2F, 0xA9], rfl⟩,
  ⟨[0xD7, 0x61, 0x1E, 0xB4, 0x50, 0x04, 0xF6, 0xC2, 0x16, 0x25, 0x86, 0x56, 0x55, 0x09, 0xBE, 0x91], rfl⟩], rfl⟩

/-- The rows of `Q[s]` (41_fixed_tables.md R140). -/
def qRows : Fin 2 → Vec (Vec Byte 16) 16
  | 0 => q0Rows
  | 1 => q1Rows

/-- Entry `y` of table `Q[s]` (41_fixed_tables.md R140). -/
def Q (s : Fin 2) (y : Byte) : Byte :=
  ((qRows s).get ⟨y.toNat / 16, by have := y.isLt; omega⟩).get
    ⟨y.toNat % 16, Nat.mod_lt _ (by decide)⟩

/-- The four 4-bit permutations `t0` to `t3` behind `Q[s]`, for checking (41_fixed_tables.md R143). -/
def qNibbles : Fin 2 → Vec (Vec (BitVec 4) 16) 4
  | 0 => ⟨[
    ⟨[0x8, 0x1, 0x7, 0xD, 0x6, 0xF, 0x3, 0x2, 0x0, 0xB, 0x5, 0x9, 0xE, 0xC, 0xA, 0x4], rfl⟩,
    ⟨[0xE, 0xC, 0xB, 0x8, 0x1, 0x2, 0x3, 0x5, 0xF, 0x4, 0xA, 0x6, 0x7, 0x0, 0x9, 0xD], rfl⟩,
    ⟨[0xB, 0xA, 0x5, 0xE, 0x6, 0xD, 0x9, 0x0, 0xC, 0x8, 0xF, 0x3, 0x2, 0x4, 0x7, 0x1], rfl⟩,
    ⟨[0xD, 0x7, 0xF, 0x4, 0x1, 0x2, 0x6, 0xE, 0x9, 0xB, 0x3, 0x0, 0x8, 0x5, 0xC, 0xA], rfl⟩], rfl⟩
  | 1 => ⟨[
    ⟨[0x2, 0x8, 0xB, 0xD, 0xF, 0x7, 0x6, 0xE, 0x3, 0x1, 0x9, 0x4, 0x0, 0xA, 0xC, 0x5], rfl⟩,
    ⟨[0x1, 0xE, 0x2, 0xB, 0x4, 0xC, 0x3, 0x7, 0x6, 0xD, 0xA, 0x5, 0xF, 0x9, 0x0, 0x8], rfl⟩,
    ⟨[0x4, 0xC, 0x7, 0x5, 0x1, 0x6, 0x9, 0xA, 0x0, 0xE, 0xD, 0x8, 0x2, 0xB, 0x3, 0xF], rfl⟩,
    ⟨[0xB, 0x9, 0x5, 0x1, 0xC, 0x3, 0xD, 0xE, 0x6, 0x4, 0x7, 0xF, 0x2, 0x0, 0x8, 0xA], rfl⟩], rfl⟩

/-- A 4-bit value rotated right by one (41_fixed_tables.md R143). -/
def ror4 (v : BitVec 4) : BitVec 4 := (v >>> 1) ||| ((v &&& 1) <<< 3)

/-- Entry `v` of the 4-bit permutation `t` (41_fixed_tables.md R143). -/
def nibbleAt (t : Vec (BitVec 4) 16) (v : BitVec 4) : BitVec 4 := t.get v.toFin

/-- The construction of the permutation tables, for checking (41_fixed_tables.md R143). -/
def qperm (t : Vec (Vec (BitVec 4) 16) 4) (x : Byte) : Byte :=
  let a0 : BitVec 4 := x.extractLsb' 4 4
  let b0 : BitVec 4 := x.extractLsb' 0 4
  let a1 := a0 ^^^ b0
  let b1 := a0 ^^^ ror4 b0 ^^^ (a0 <<< 3)
  let a2 := nibbleAt (t.get 0) a1
  let b2 := nibbleAt (t.get 1) b1
  let a3 := a2 ^^^ b2
  let b3 := a2 ^^^ ror4 b2 ^^^ (a2 <<< 3)
  let a4 := nibbleAt (t.get 2) a3
  let b4 := nibbleAt (t.get 3) b3
  b4 ++ a4

/-- An entry of the MDS matrix: one of its three distinct values (41_fixed_tables.md R146). -/
inductive MdsEntry where
  /-- 0x01. -/
  | one
  /-- 0x5B. -/
  | x
  /-- 0xEF. -/
  | y
  deriving DecidableEq, Repr

/-- The matrix entry as a field element (41_fixed_tables.md R146). -/
def MdsEntry.value : MdsEntry → Byte
  | .one => 0x01
  | .x => 0x5B
  | .y => 0xEF

/-- The multiplier of a matrix entry (41_fixed_tables.md R146, 40_gf256_arithmetic.md R127). -/
def MdsEntry.mul : MdsEntry → Byte → Byte
  | .one => mul1
  | .x => mulX
  | .y => mulY

/-- The MDS matrix, `M[r][c]` for row `r` and column `c` (41_fixed_tables.md R146). -/
def mdsMatrix : Vec (Vec MdsEntry 4) 4 := ⟨[
  ⟨[.one, .y, .x, .x], rfl⟩,
  ⟨[.x, .y, .y, .one], rfl⟩,
  ⟨[.y, .x, .one, .y], rfl⟩,
  ⟨[.y, .one, .y, .x], rfl⟩], rfl⟩

/-- Output byte `r` of the MDS matrix applied to the bytes of `x` (41_fixed_tables.md R146). -/
def mdsRow (r : Fin 4) (x : Word) : Byte :=
  ((mdsMatrix.get r).get 0).mul (lane 0 x) ^^^ ((mdsMatrix.get r).get 1).mul (lane 1 x)
    ^^^ ((mdsMatrix.get r).get 2).mul (lane 2 x) ^^^ ((mdsMatrix.get r).get 3).mul (lane 3 x)

/-- The MDS matrix applied to the four bytes of `x`, result byte `r` in lane `r`
(41_fixed_tables.md R146). -/
def mdsMul (x : Word) : Word := word (mdsRow 0 x) (mdsRow 1 x) (mdsRow 2 x) (mdsRow 3 x)

/-- Column `j` of the MDS matrix times the byte `y`, as a word (41_fixed_tables.md R147). -/
def mdsCol : Fin 4 → Byte → Word
  | 0, y => word (mul1 y) (mulX y) (mulY y) (mulY y)
  | 1, y => word (mulY y) (mulY y) (mulX y) (mul1 y)
  | 2, y => word (mulX y) (mulY y) (mul1 y) (mulY y)
  | 3, y => word (mulX y) (mul1 y) (mulY y) (mulX y)

/-- The permutation selectors `QSEL[j][s]`, lane `j`, stage `s` (43_round_function_f32.md R191). -/
def qselRows : Vec (Vec (Fin 2) 5) 4 := ⟨[
  ⟨[1, 0, 0, 1, 1], rfl⟩,
  ⟨[0, 0, 1, 1, 0], rfl⟩,
  ⟨[1, 1, 0, 0, 0], rfl⟩,
  ⟨[0, 1, 1, 0, 1], rfl⟩], rfl⟩

/-- `QSEL[j][s]` (43_round_function_f32.md R191). -/
def QSEL (j : Fin 4) (s : Fin 5) : Fin 2 := (qselRows.get j).get s

/-- `MDSQ[j][i]`: the last permutation of lane `j` folded into the matrix column
(41_fixed_tables.md R148, log 8). -/
def MDSQ (j : Fin 4) (i : Byte) : Word := mdsCol j (Q (QSEL j 0) i)

end Sys2Proof.Machine
end

