-- ==== Sys2Proof/Machine/F32.lean ====
section
/-!
DEFINITION. The keyed round function F32 and its lanes (43_round_function_f32.md).
-/

namespace Sys2Proof.Machine

/-- Stage `s` for one lane byte: the lane's permutation table, then the lane's byte of the key word
(43_round_function_f32.md R192). -/
def stageLane (s : Fin 5) (j : Fin 4) (y : Byte) (kw : Word) : Byte := Q (QSEL j s) y ^^^ lane j kw

/-- Stage `s` on the four lane bytes of a word, byte `j` in lane `j` (43_round_function_f32.md R192). -/
def stage (s : Fin 5) (y kw : Word) : Word :=
  word (stageLane s 0 (lane 0 y) kw) (stageLane s 1 (lane 1 y) kw)
    (stageLane s 2 (lane 2 y) kw) (stageLane s 3 (lane 3 y) kw)

/-- The last line of F32: one look-up in `MDSQ` per lane (43_round_function_f32.md R193). -/
def mdsqSum (y : Word) : Word :=
  MDSQ 0 (lane 0 y) ^^^ MDSQ 1 (lane 1 y) ^^^ MDSQ 2 (lane 2 y) ^^^ MDSQ 3 (lane 3 y)

/-- F32 for key-length class `cls` (`k64Cnt mod 4`), the word `x` and four key words; each of the
four lines is applied when its test holds, in this order (43_round_function_f32.md R190, R193). -/
def F32 (cls : Fin 4) (x : Word) (k : Vec Word 4) : Word :=
  let y4 := if cls = 0 then stage 4 x (k.get 3) else x
  let y3 := if cls = 0 ∨ cls = 3 then stage 3 y4 (k.get 2) else y4
  let y2 := if cls = 0 ∨ cls = 3 ∨ cls = 2 then stage 2 y3 (k.get 1) else y3
  mdsqSum (stage 1 y2 (k.get 0))

/-- The lane function of lane `j`, started at byte `y` (43_round_function_f32.md R196). -/
def laneF32 (cls : Fin 4) (j : Fin 4) (y : Byte) (k : Vec Word 4) : Word :=
  let y4 := if cls = 0 then stageLane 4 j y (k.get 3) else y
  let y3 := if cls = 0 ∨ cls = 3 then stageLane 3 j y4 (k.get 2) else y4
  let y2 := if cls = 0 ∨ cls = 3 ∨ cls = 2 then stageLane 2 j y3 (k.get 1) else y3
  MDSQ j (stageLane 1 j y2 (k.get 0))

end Sys2Proof.Machine
end

