-- ==== Sys2Proof/Machine/State.lean ====
section
/-!
DEFINITION. The state of the engine as plain data (10_state.md), the events the hosts have still to
see served, the responses given, and the state after reset.
-/

namespace Sys2Proof.Machine

/-- The whole architectural state of `TFE`, "and nothing else" (10_state.md R20). -/
structure Engine where
  /-- `KEYW[0..7]`, the key material (10_state.md R21). -/
  keyw : Vec Word 8
  /-- `DIN[0..3]`, the input block (10_state.md R23). -/
  din : Vec Word 4
  /-- `DOUT[0..3]`, the output block (10_state.md R24). -/
  dout : Vec Word 4
  /-- `SBOXKEY[0..3]`, Schedule array (10_state.md R40). -/
  sboxkey : Vec Word 4
  /-- `SUBKEY[0..39]`, Schedule array (10_state.md R41). -/
  subkey : Vec Word 40
  /-- `XSBOX[0..1023]`, Schedule array (10_state.md R42). -/
  xsbox : Vec Word 1024
  /-- `SVALID`: the three Schedule arrays are a complete derivation (10_state.md R33). -/
  svalid : Bool
  /-- `ERR`: result code of the most recent command (10_state.md R34). -/
  err : BitVec 4
  deriving DecidableEq, Repr

/-- A machine state: the engine, and the model's own two lists, which stand for the hosts and the
platform (log 1). A run is a sequence of events chosen by them, and what it shows is the sequence of
responses (20_memory.md R81). -/
structure State where
  /-- The engine's registers. -/
  engine : Engine
  /-- The events still to be served, oldest first: the input of the model (10_state.md R30). -/
  pending : List Event
  /-- The responses given so far, oldest first (20_memory.md R81). -/
  responses : List Response
  deriving DecidableEq, Repr

/-- The errors of the engine and the success code (60_exceptions.md R280: "There are exactly
these"). They are results written to `ERR`, not stops of the machine (R284, R297). -/
inductive ErrCode where
  /-- The command did all its writes. -/
  | ok
  /-- Raised by `KSCHED`: `LEN` is not 8, 16, 24 or 32. -/
  | invalidKey
  /-- Raised by `ENC` and `DEC`: `SVALID` = 0. -/
  | noSchedule
  /-- Raised by the decoder: the word matches no command. -/
  | illegalCommand
  deriving DecidableEq, Repr

/-- Why a step could stop with a fault. There is no constructor, because nothing raises one: every
step has a defined outcome (20_memory.md R82) and the engine has no halted or locked state
(60_exceptions.md R297, log 18). Safe: no behaviour is hidden behind a fault. -/
inductive Fault where
  deriving DecidableEq, Repr

/-- Why a step could be refused. -/
inductive Refusal where
  /-- Raised by an arm of `exec` for a command that has no meaning yet; no arm does. Safe: the
  machine would stop rather than act wrongly. -/
  | notModelled (mnemonic : String)
  deriving DecidableEq, Repr

/-- The engine right after reset: every piece of state is zero (10_state.md R55). -/
def Engine.reset : Engine where
  keyw := Vec.replicate 8 0
  din := Vec.replicate 4 0
  dout := Vec.replicate 4 0
  sboxkey := Vec.replicate 4 0
  subkey := Vec.replicate 40 0
  xsbox := Vec.replicate 1024 0
  svalid := false
  err := 0

/-- The machine right after reset: the engine reset, nothing pending, nothing answered
(10_state.md R55, 70_reset_and_hazards.md R313, log 1). -/
def State.reset : State where
  engine := Engine.reset
  pending := []
  responses := []

end Sys2Proof.Machine
end

