-- ==== Sys2Proof/Machine/Operands.lean ====
section
/-!
DEFINITION. The operands of the commands: the key length `LEN`, the key words read from `KEYW`, and
the byte views of key and block.
-/

namespace Sys2Proof.Machine

/-- `validKeyLength(LEN)`: `LEN` is 8, 16, 24 or 32 (42_key_schedule.md R161). -/
def validKeyLength (len : Nat) : Bool := Config.KEY_BYTES.contains len

/-- `k64Cnt`: the key length in bytes divided by 8 (42_key_schedule.md R162). -/
def k64Cnt (len : Nat) : Nat := len / 8

/-- The key-length class `cls = k64Cnt mod 4` (42_key_schedule.md R162, 43_round_function_f32.md
R190). -/
def keyClass (len : Nat) : Fin 4 := Fin.ofNat 4 (k64Cnt len)

/-- The even-indexed key words `k32e`: the first `k64Cnt` read from `KEYW`, the remaining slots zero
(42_key_schedule.md R162). -/
def k32e (kw : Vec Word 8) (len : Nat) : Vec Word 4 :=
  Vec.tabulate fun i => if i.val < k64Cnt len then kw.get ⟨2 * i.val, by omega⟩ else 0

/-- The odd-indexed key words `k32o`, likewise (42_key_schedule.md R162). -/
def k32o (kw : Vec Word 8) (len : Nat) : Vec Word 4 :=
  Vec.tabulate fun i => if i.val < k64Cnt len then kw.get ⟨2 * i.val + 1, by omega⟩ else 0

/-- Key byte `j`, byte 0 the least significant byte of `KEYW[0]` (10_state.md R22). -/
def keyByte (kw : Vec Word 8) (j : Fin 32) : Byte :=
  lane ⟨j.val % 4, Nat.mod_lt _ (by decide)⟩ (kw.get ⟨j.val / 4, by omega⟩)

/-- Block byte `j` of an input or output block (10_state.md R25). -/
def blockByte (b : Vec Word 4) (j : Fin 16) : Byte :=
  lane ⟨j.val % 4, Nat.mod_lt _ (by decide)⟩ (b.get ⟨j.val / 4, by omega⟩)

/-- The little-endian word at offset `o` of a byte sequence; bytes past its end are 0, which is the
padding of `LDKEY` (40_gf256_arithmetic.md R121, 30_encoding.md R104). -/
def le32 (bytes : List Byte) (o : Nat) : Word :=
  word (bytes.getD o 0) (bytes.getD (o + 1) 0) (bytes.getD (o + 2) 0) (bytes.getD (o + 3) 0)

/-- The four little-endian words of the sixteen bytes at offset `o` of a byte sequence, as a block
command takes them in `DIN` and gives them in `DOUT` (44_block_transform.md R211, 20_memory.md R63). -/
def blockWords (bytes : List Byte) (o : Nat) : Vec Word 4 :=
  Vec.tabulate fun m => le32 bytes (o + 4 * m.val)

end Sys2Proof.Machine
end

