-- ==== Sys2Proof/Machine/Flags.lean ====
section
/-!
DEFINITION. The flag `SVALID`, the result code `ERR`, and the register `STATUS` made of them
(10_state.md R33, R34, R37). There are no arithmetic flags (R35).
-/

namespace Sys2Proof.Machine

/-- The value written to `ERR` for a result (60_exceptions.md R280). -/
def ErrCode.code : ErrCode → BitVec 4
  | .ok => 0
  | .invalidKey => 1
  | .noSchedule => 2
  | .illegalCommand => 3

/-- A read of `STATUS`: `(ERR << 4) | SVALID`, the reserved bits 0 (10_state.md R37). -/
def Engine.status (e : Engine) : Word :=
  (e.err.setWidth 32 <<< 4) ||| (if e.svalid then 1 else 0)

/-- Field `ERR` of a `STATUS` value, bits 7:4 (10_state.md R37, 46_host_software.md R252). -/
def statusErr (w : Word) : BitVec 4 := w.extractLsb' 4 4

/-- Field `SVALID` of a `STATUS` value, bit 0 (10_state.md R37). -/
def statusSvalid (w : Word) : Bool := w.getLsbD 0

end Sys2Proof.Machine
end

