-- ==== Sys2Proof/Machine/Ops.lean ====
section
/-!
DEFINITION. The named operations on the machine state that the commands and the transactions share:
every write to the engine's registers is one of these.
-/

namespace Sys2Proof.Machine

/-- A Schedule: the three arrays derived from one key (00_scope.md R16, 42_key_schedule.md R168). -/
structure Schedule where
  /-- `S`, for `SBOXKEY`. -/
  sboxkey : Vec Word 4
  /-- `K`, for `SUBKEY`. -/
  subkey : Vec Word 40
  /-- `X`, for `XSBOX`. -/
  xsbox : Vec Word 1024
  deriving DecidableEq, Repr

/-- The Schedule the engine holds (10_state.md R45). -/
def Engine.schedule (e : Engine) : Schedule := ⟨e.sboxkey, e.subkey, e.xsbox⟩

/-- Taking an error: `raise <Name>` ends the command at once, writes `STATUS.ERR` and changes nothing
else (00_scope.md R14, 60_exceptions.md R288, R290). Nothing is saved and no mode changes; there is no
return from it, the engine being ready for the next command at once (R290). -/
def State.raise (c : ErrCode) (s : State) : State :=
  { s with engine := { s.engine with err := c.code } }

/-- Publication of a derived Schedule: the three arrays, `SVALID` and `ERR` all at once
(42_key_schedule.md R160, R167). -/
def State.publish (d : Schedule) (s : State) : State :=
  { s with engine := { s.engine with
      sboxkey := d.sboxkey, subkey := d.subkey, xsbox := d.xsbox, svalid := true,
      err := ErrCode.ok.code } }

/-- The end of a successful block transform: all four words of `DOUT`, and `ERR` = 0
(10_state.md R24, 44_block_transform.md R216). -/
def State.deliver (block : Vec Word 4) (s : State) : State :=
  { s with engine := { s.engine with dout := block, err := ErrCode.ok.code } }

/-- The engine's registers set to their reset values, all in one step; what `rst` does
(70_reset_and_hazards.md R310) and what `ZEROIZE` does by command (45_control_commands.md R240). -/
def State.clear (s : State) : State := { s with engine := Engine.reset }

/-- A host write of all 32 bits of `KEYW[n]` (20_memory.md R61). -/
def State.writeKeyw (n : Fin 8) (v : Word) (s : State) : State :=
  { s with engine := { s.engine with keyw := s.engine.keyw.set n v } }

/-- A host write of all 32 bits of `DIN[n]` (20_memory.md R61). -/
def State.writeDin (n : Fin 4) (v : Word) (s : State) : State :=
  { s with engine := { s.engine with din := s.engine.din.set n v } }

/-- The engine gives a response to the transaction it has served (20_memory.md R60). -/
def State.respond (r : Response) (s : State) : State :=
  { s with responses := s.responses ++ [r] }

/-- Applies `f` to the next state of an outcome; a stop stays as it is. -/
def onNext (f : State → State) : Host.Outcome State Fault Refusal → Host.Outcome State Fault Refusal
  | .next s => .next (f s)
  | .fault r => .fault r
  | .refused r => .refused r

end Sys2Proof.Machine
end

