-- ==== Sys2Proof/Machine/KeySchedule.lean ====
section
/-!
DEFINITION. The key schedule and the command `KSCHED` (42_key_schedule.md).
-/

namespace Sys2Proof.Machine

/-- Step 3, the S-box key words in reversed order: `S[k64Cnt-1-i] = rsEncode(k32e[i], k32o[i])`, the
unused entries zero (42_key_schedule.md R163). Entry `m` is written by the `i` with
`k64Cnt-1-i = m`. -/
def sboxKeyWords (kw : Vec Word 8) (len : Nat) : Vec Word 4 :=
  Vec.tabulate fun m =>
    if m.val < k64Cnt len then
      rsEncode ((k32e kw len).toList.getD (k64Cnt len - 1 - m.val) 0)
        ((k32o kw len).toList.getD (k64Cnt len - 1 - m.val) 0)
    else 0

/-- `q = p * 0x02020202` (42_key_schedule.md R164). -/
def subkeyQ (p : Nat) : Word := BitVec.ofNat 32 (p * Config.SK_STEP)

/-- `A` of subkey pair `p`: F32 of `q` under the even key words (42_key_schedule.md R164). -/
def subkeyA (kw : Vec Word 8) (len p : Nat) : Word :=
  F32 (keyClass len) (subkeyQ p) (k32e kw len)

/-- `B` of subkey pair `p`: F32 of `q + 0x01010101` under the odd key words, rotated left by 8
(42_key_schedule.md R164). -/
def subkeyB (kw : Vec Word 8) (len p : Nat) : Word :=
  rotl32 (F32 (keyClass len) (subkeyQ p + BitVec.ofNat 32 Config.SK_BUMP) (k32o kw len)) 8

/-- Step 4, the 40 subkey words: `K[2p] = A + B`, `K[2p+1] = rotl32(A + 2B, 9)`
(42_key_schedule.md R164). -/
def subkeyWords (kw : Vec Word 8) (len : Nat) : Vec Word 40 :=
  Vec.tabulate fun n =>
    if n.val % 2 = 0 then subkeyA kw len (n.val / 2) + subkeyB kw len (n.val / 2)
    else rotl32 (subkeyA kw len (n.val / 2) + 2 * subkeyB kw len (n.val / 2)) Config.SK_ROTL

/-- Where the expanded table keeps the entry of lane `j` for byte `i`:
`XIDX(j, i) = 0x200 * (j div 2) + 2*i + (j mod 2)` (10_state.md R42). -/
def XIDX (j : Fin 4) (i : Byte) : Fin 1024 :=
  ⟨0x200 * (j.val / 2) + 2 * i.toNat + j.val % 2, by have := i.isLt; omega⟩

/-- The lane whose entry stands at index `n` of the expanded table, read off `XIDX`
(10_state.md R42). -/
def xidxLane (n : Fin 1024) : Fin 4 := ⟨2 * (n.val / 0x200) + n.val % 2, by omega⟩

/-- The byte whose entry stands at index `n` of the expanded table, read off `XIDX`
(10_state.md R42). -/
def xidxByte (n : Fin 1024) : Byte := BitVec.ofNat 8 (n.val % 0x200 / 2)

/-- Step 5, the expanded S-box: `X[XIDX(j, i)] = laneF32(cls, j, i, S)` for every lane `j` and byte
`i` (42_key_schedule.md R166, log 8). -/
def expandedWords (cls : Fin 4) (sk : Vec Word 4) : Vec Word 1024 :=
  Vec.tabulate fun n => laneF32 cls (xidxLane n) (xidxByte n) sk

/-- The derivation as one function of the key words and the length (42_key_schedule.md R168). Its
domain is `LEN` in 8, 16, 24, 32; `KSCHED` calls it for no other `LEN` (log 11). -/
def deriveSchedule (kw : Vec Word 8) (len : Nat) : Schedule where
  sboxkey := sboxKeyWords kw len
  subkey := subkeyWords kw len
  xsbox := expandedWords (keyClass len) (sboxKeyWords kw len)

/-- `KSCHED len`: reject a bad length before any work, else derive the Schedule and publish it
(42_key_schedule.md R160, R161). -/
def execKsched (len : Nat) (s : State) : Host.Outcome State Fault Refusal :=
  if validKeyLength len then .next (s.publish (deriveSchedule s.engine.keyw len))
  else .next (s.raise .invalidKey)

end Sys2Proof.Machine
end

