-- ==== Sys2Proof/Machine/BlockTransform.lean ====
section
/-!
DEFINITION. The block transform and the commands `ENC` and `DEC` (44_block_transform.md).
-/

namespace Sys2Proof.Machine

/-- `g(x)`: the keyed function of one half-word by four look-ups in the expanded table
(44_block_transform.md R212). -/
def g (X : Vec Word 1024) (x : Word) : Word :=
  X.get (XIDX 0 (lane 0 x)) ^^^ X.get (XIDX 1 (lane 1 x)) ^^^ X.get (XIDX 2 (lane 2 x))
    ^^^ X.get (XIDX 3 (lane 3 x))

/-- One encryption round on the source half (`a`, `b`) and the target half (`c`, `d`)
(44_block_transform.md R214). -/
def encRound (X : Vec Word 1024) (a b c d ka kb : Word) : Word × Word :=
  let t0 := g X a
  let t1 := g X (rotl32 b 8)
  (rotr32 (c ^^^ (t0 + t1 + ka)) 1, rotl32 d 1 ^^^ (t0 + 2 * t1 + kb))

/-- One decryption round, each rotate inverted (44_block_transform.md R215). -/
def decRound (X : Vec Word 1024) (a b c d ka kb : Word) : Word × Word :=
  let t0 := g X a
  let t1 := g X (rotl32 b 8)
  (rotl32 c 1 ^^^ (t0 + t1 + ka), rotr32 (d ^^^ (t0 + 2 * t1 + kb)) 1)

/-- The four working words of a block transform; they exist only inside one command
(10_state.md R50). -/
structure Work where
  /-- `x0`. -/
  x0 : Word
  /-- `x1`. -/
  x1 : Word
  /-- `x2`. -/
  x2 : Word
  /-- `x3`. -/
  x3 : Word
  deriving DecidableEq, Repr

/-- Input whitening of `ENC` (44_block_transform.md R216). -/
def encLoad (K : Vec Word 40) (b : Vec Word 4) : Work where
  x0 := b.get 0 ^^^ K.get 0
  x1 := b.get 1 ^^^ K.get 1
  x2 := b.get 2 ^^^ K.get 2
  x3 := b.get 3 ^^^ K.get 3

/-- Pair `i` of encryption rounds, an even round and an odd one, with `k = 8 + 4i`
(44_block_transform.md R216). -/
def encPair (X : Vec Word 1024) (K : Vec Word 40) (w : Work) (i : Fin 8) : Work :=
  let p := encRound X w.x0 w.x1 w.x2 w.x3
    (K.get ⟨8 + 4 * i.val, by omega⟩) (K.get ⟨9 + 4 * i.val, by omega⟩)
  let r := encRound X p.1 p.2 w.x0 w.x1
    (K.get ⟨10 + 4 * i.val, by omega⟩) (K.get ⟨11 + 4 * i.val, by omega⟩)
  ⟨r.1, r.2, p.1, p.2⟩

/-- Output whitening of `ENC`, in the permuted order `x2, x3, x0, x1` (44_block_transform.md R216). -/
def encStore (K : Vec Word 40) (w : Work) : Vec Word 4 :=
  ⟨[w.x2 ^^^ K.get 4, w.x3 ^^^ K.get 5, w.x0 ^^^ K.get 6, w.x1 ^^^ K.get 7], rfl⟩

/-- The eight pairs in ascending order (44_block_transform.md R216). -/
def pairs : List (Fin 8) := [0, 1, 2, 3, 4, 5, 6, 7]

/-- Encryption of one block under a table and its subkeys: whitening, 16 rounds as 8 pairs, whitening
(44_block_transform.md R216). -/
def encBlock (X : Vec Word 1024) (K : Vec Word 40) (b : Vec Word 4) : Vec Word 4 :=
  encStore K (pairs.foldl (encPair X K) (encLoad K b))

/-- The start of `DEC`: the output whitening undone, in the same permuted order
(44_block_transform.md R220). -/
def decLoad (K : Vec Word 40) (b : Vec Word 4) : Work where
  x2 := b.get 0 ^^^ K.get 4
  x3 := b.get 1 ^^^ K.get 5
  x0 := b.get 2 ^^^ K.get 6
  x1 := b.get 3 ^^^ K.get 7

/-- Turn `i` of the decryption loop, with `k = 39 - 4i`: undoes an odd round, then the even one before
it (44_block_transform.md R220). -/
def decPair (X : Vec Word 1024) (K : Vec Word 40) (w : Work) (i : Fin 8) : Work :=
  let p := decRound X w.x2 w.x3 w.x0 w.x1
    (K.get ⟨38 - 4 * i.val, by omega⟩) (K.get ⟨39 - 4 * i.val, by omega⟩)
  let r := decRound X p.1 p.2 w.x2 w.x3
    (K.get ⟨36 - 4 * i.val, by omega⟩) (K.get ⟨37 - 4 * i.val, by omega⟩)
  ⟨p.1, p.2, r.1, r.2⟩

/-- The end of `DEC`: the input whitening undone, in natural order (44_block_transform.md R220). -/
def decStore (K : Vec Word 40) (w : Work) : Vec Word 4 :=
  ⟨[w.x0 ^^^ K.get 0, w.x1 ^^^ K.get 1, w.x2 ^^^ K.get 2, w.x3 ^^^ K.get 3], rfl⟩

/-- Decryption of one block (44_block_transform.md R220). -/
def decBlock (X : Vec Word 1024) (K : Vec Word 40) (b : Vec Word 4) : Vec Word 4 :=
  decStore K (pairs.foldl (decPair X K) (decLoad K b))

/-- One encryption round of the one-round-with-swap form, round `r` (44_block_transform.md R217). -/
def encSwapRound (X : Vec Word 1024) (K : Vec Word 40) (w : Work) (r : Fin 16) : Work :=
  let p := encRound X w.x0 w.x1 w.x2 w.x3
    (K.get ⟨8 + 2 * r.val, by omega⟩) (K.get ⟨9 + 2 * r.val, by omega⟩)
  ⟨p.1, p.2, w.x0, w.x1⟩

/-- The sixteen rounds in ascending order (44_block_transform.md R217). -/
def rounds : List (Fin 16) := [0, 1, 2, 3, 4, 5, 6, 7, 8, 9, 10, 11, 12, 13, 14, 15]

/-- The same encryption in the published cipher's one-round-with-swap form, for checking
(44_block_transform.md R217). -/
def encBlockSwap (X : Vec Word 1024) (K : Vec Word 40) (b : Vec Word 4) : Vec Word 4 :=
  encStore K (rounds.foldl (encSwapRound X K) (encLoad K b))

/-- `ENC`: without a Schedule raise `NoSchedule`, else encrypt `DIN` into `DOUT`
(44_block_transform.md R210, R216). -/
def execEnc (s : State) : Host.Outcome State Fault Refusal :=
  if s.engine.svalid then
    .next (s.deliver (encBlock s.engine.xsbox s.engine.subkey s.engine.din))
  else .next (s.raise .noSchedule)

/-- `DEC`: without a Schedule raise `NoSchedule`, else decrypt `DIN` into `DOUT`
(44_block_transform.md R210, R220). -/
def execDec (s : State) : Host.Outcome State Fault Refusal :=
  if s.engine.svalid then
    .next (s.deliver (decBlock s.engine.xsbox s.engine.subkey s.engine.din))
  else .next (s.raise .noSchedule)

end Sys2Proof.Machine
end

