-- ==== Sys2Proof/Machine/Control.lean ====
section
/-!
DEFINITION. The control command `ZEROIZE` (45_control_commands.md). The engine has no other system
command (R243).
-/

namespace Sys2Proof.Machine

/-- `ZEROIZE`: discard the key, the block registers and the Schedule; it cannot fail
(45_control_commands.md R240). -/
def execZeroize (s : State) : Host.Outcome State Fault Refusal := .next s.clear

end Sys2Proof.Machine
end

