-- ==== Sys2Proof/Machine/Window.lean ====
section
/-!
DEFINITION. The register window: which offset holds which register, what the host may do there, and
which transactions are refused (20_memory.md R61 to R67).
-/

namespace Sys2Proof.Machine

/-- A register of the window (20_memory.md R61). -/
inductive Reg where
  /-- `CMD`. -/
  | cmd
  /-- `STATUS`. -/
  | status
  /-- `KEYW[n]`. -/
  | keyw (n : Fin 8)
  /-- `DIN[n]`. -/
  | din (n : Fin 4)
  /-- `DOUT[n]`. -/
  | dout (n : Fin 4)
  /-- `SBOXKEY[n]`. -/
  | sboxkey (n : Fin 4)
  /-- `SUBKEY[n]`. -/
  | subkey (n : Fin 40)
  /-- `XSBOX[n]`. -/
  | xsbox (n : Fin 1024)
  deriving DecidableEq, Repr

/-- The byte offset of a register from `BASE`, `off(<reg>)` (20_memory.md R61, 30_encoding.md R103). -/
def Reg.offset : Reg → Offset
  | .cmd => 0x0000
  | .status => 0x0004
  | .keyw n => BitVec.ofNat 13 (0x0010 + 4 * n.val)
  | .din n => BitVec.ofNat 13 (0x0030 + 4 * n.val)
  | .dout n => BitVec.ofNat 13 (0x0040 + 4 * n.val)
  | .sboxkey n => BitVec.ofNat 13 (0x0050 + 4 * n.val)
  | .subkey n => BitVec.ofNat 13 (0x0100 + 4 * n.val)
  | .xsbox n => BitVec.ofNat 13 (0x1000 + 4 * n.val)

/-- The register at word `k` of the window, byte offset `4k`; a reserved offset holds none
(20_memory.md R61, R67). -/
def regAtWord (k : Nat) : Option Reg :=
  if k = 0 then some .cmd
  else if k = 1 then some .status
  else if h : 0x04 ≤ k ∧ k < 0x0C then some (.keyw ⟨k - 0x04, by omega⟩)
  else if h : 0x0C ≤ k ∧ k < 0x10 then some (.din ⟨k - 0x0C, by omega⟩)
  else if h : 0x10 ≤ k ∧ k < 0x14 then some (.dout ⟨k - 0x10, by omega⟩)
  else if h : 0x14 ≤ k ∧ k < 0x18 then some (.sboxkey ⟨k - 0x14, by omega⟩)
  else if h : 0x40 ≤ k ∧ k < 0x68 then some (.subkey ⟨k - 0x40, by omega⟩)
  else if h : 0x400 ≤ k ∧ k < 0x800 then some (.xsbox ⟨k - 0x400, by omega⟩)
  else none

/-- Why a transaction is refused, in the order of 20_memory.md R66. All have the one answer
`BUSERR`. -/
inductive BusRefusal where
  /-- 1: `size` is not 4 (R64). -/
  | badSize
  /-- 2: `off` is not a multiple of 4 (R65). -/
  | misaligned
  /-- 3: `off` is a reserved offset (R67). -/
  | reserved
  /-- 4: a read of the write-only `CMD`. -/
  | readOfWriteOnly
  /-- 5: a write of a read-only register. -/
  | writeOfReadOnly
  deriving DecidableEq, Repr

/-- Tests 1 to 3, which reads and writes share (20_memory.md R66). -/
def locate (off : Offset) (size : Nat) : Except BusRefusal Reg :=
  if size ≠ 4 then .error .badSize
  else if off.toNat % 4 ≠ 0 then .error .misaligned
  else match regAtWord (off.toNat / 4) with
    | none => .error .reserved
    | some r => .ok r

/-- The current value of a register; `CMD` has none (10_state.md R36, 20_memory.md R61). -/
def Engine.readReg (e : Engine) : Reg → Option Word
  | .cmd => none
  | .status => some e.status
  | .keyw n => some (e.keyw.get n)
  | .din n => some (e.din.get n)
  | .dout n => some (e.dout.get n)
  | .sboxkey n => some (e.sboxkey.get n)
  | .subkey n => some (e.subkey.get n)
  | .xsbox n => some (e.xsbox.get n)

/-- What a read finds: a register's value, or the reason it is refused (20_memory.md R66). -/
def Engine.readAt (e : Engine) (off : Offset) (size : Nat) : Except BusRefusal Word :=
  match locate off size with
  | .error r => .error r
  | .ok reg =>
    match e.readReg reg with
    | none => .error .readOfWriteOnly
    | some v => .ok v

/-- The response to a read: the value and `OKAY`, or 0 and `BUSERR` (20_memory.md R61, R66). -/
def Engine.readResponse (e : Engine) (off : Offset) (size : Nat) : Response :=
  match e.readAt off size with
  | .ok v => .read .okay v
  | .error _ => .read .buserr 0

/-- A register the host may write (20_memory.md R61). -/
inductive WriteTarget where
  /-- `CMD`: the write executes a command. -/
  | cmd
  /-- `KEYW[n]`. -/
  | keyw (n : Fin 8)
  /-- `DIN[n]`. -/
  | din (n : Fin 4)
  deriving DecidableEq, Repr

/-- The register as a target of a write; none for a read-only register (20_memory.md R61, R66). -/
def Reg.writeTarget : Reg → Option WriteTarget
  | .cmd => some .cmd
  | .status => none
  | .keyw n => some (.keyw n)
  | .din n => some (.din n)
  | .dout _ => none
  | .sboxkey _ => none
  | .subkey _ => none
  | .xsbox _ => none

/-- Where a write goes, or the reason it is refused (20_memory.md R66). -/
def writeAt (off : Offset) (size : Nat) : Except BusRefusal WriteTarget :=
  match locate off size with
  | .error r => .error r
  | .ok reg =>
    match reg.writeTarget with
    | none => .error .writeOfReadOnly
    | some t => .ok t

/-- The engine accepts the transaction: none of the five tests of 20_memory.md R66 holds. -/
def accepts (e : Engine) : Transaction → Bool
  | .read off size => (e.readAt off size).isOk
  | .write off size _ => (writeAt off size).isOk

/-- The engine's offset of a platform address; none outside the window, where a transaction never
reaches the engine (20_memory.md R62). -/
def offsetOfAddress (addr : Nat) : Option Offset :=
  if Config.BASE ≤ addr ∧ addr < Config.BASE + Config.WINDOW_BYTES then
    some (BitVec.ofNat 13 (addr - Config.BASE))
  else none

end Sys2Proof.Machine
end

