-- ==== Sys2Proof/Machine/Serve.lean ====
section
/-!
DEFINITION. Serving one transaction, executing one command word, and taking the next event
(20_memory.md R60, 30_encoding.md R92, 60_exceptions.md R286).
-/

namespace Sys2Proof.Machine

/-- The engine decodes a command word and executes the command it selects; an illegal word raises
`IllegalCommand` (10_state.md R36, 30_encoding.md R92, R100). -/
def runCommand (w : Word) (s : State) : Host.Outcome State Fault Refusal :=
  match decode w with
  | .ok i => exec i s
  | .error _ => .next (s.raise .illegalCommand)

/-- An accepted write: of `CMD` it executes a command, of `KEYW[n]` or `DIN[n]` it replaces all 32
bits (20_memory.md R61). -/
def applyWrite (t : WriteTarget) (v : Word) (s : State) : Host.Outcome State Fault Refusal :=
  match t with
  | .cmd => runCommand v s
  | .keyw n => .next (s.writeKeyw n v)
  | .din n => .next (s.writeDin n v)

/-- One transaction as a single atomic step, with its response: a command's outcome is never a bus
error, and a refused transaction changes no register (20_memory.md R60, R61, R66). -/
def serve (t : Transaction) (s : State) : Host.Outcome State Fault Refusal :=
  match t with
  | .read off size => .next (s.respond (s.engine.readResponse off size))
  | .write off size wdata =>
    match writeAt off size with
    | .error _ => .next (s.respond (.write .buserr))
    | .ok target => onNext (State.respond (.write .okay)) (applyWrite target (BitVec.ofNat 32 wdata) s)

/-- The oldest pending event happens; with none pending the engine is idle and holds its state
(20_memory.md R81, 60_exceptions.md R307, log 2). A reset sets the whole state and has no response
(70_reset_and_hazards.md R310, R311, log 6). -/
def takeEvent (s : State) : Host.Outcome State Fault Refusal :=
  match s.pending with
  | [] => .next s
  | .reset :: rest => .next { s.clear with pending := rest }
  | .serve t :: rest => serve t { s with pending := rest }

/-- The transaction that carries a command word: `MemWrite(0x0000, 4, w)` (10_state.md R36). -/
def commandWrite (w : Nat) : Transaction := .write (Reg.offset .cmd) 4 w

end Sys2Proof.Machine
end

