-- ==== Sys2Proof/Machine/Step.lean ====
section
/-!
DEFINITION. One step of the machine, and the placing of an instruction where the next step takes it.
-/

namespace Sys2Proof.Machine

/-- One step: the oldest pending event (20_memory.md R81). -/
def step (s : State) : Host.Outcome State Fault Refusal := takeEvent s

/-- The state with a write of the command word `w` placed as the next event, so that the next step
executes it. There is no instruction fetch: a command is a word written to `CMD`
(10_state.md R30, log 21). -/
def State.withFetchWord (s : State) (nbits w : Nat) : State :=
  { s with pending := .serve (commandWrite (w % 2 ^ nbits)) :: s.pending }

end Sys2Proof.Machine
end

