-- ==== Sys2Proof/Machine/Checksum.lean ====
section
/-!
DEFINITION. The checksums of the fixed tables (41_fixed_tables.md R150). They are for checking the
tables; no command uses them. SHA-256 is named by the spec and defined outside it (log 22).
-/

namespace Sys2Proof.Machine

/-- The byte values 0 to 255 in order, the indices of a table (41_fixed_tables.md R140, R148). -/
def byteValues : List Byte := (List.range 256).map (BitVec.ofNat 8)

/-- `Q[s]` in index order (41_fixed_tables.md R140). -/
def qTable (s : Fin 2) : List Byte := byteValues.map (Q s)

/-- `MDSQ[j]` in index order (41_fixed_tables.md R148). -/
def mdsqTable (j : Fin 4) : List Word := byteValues.map (MDSQ j)

/-- `xor`: the exclusive or of all entries (41_fixed_tables.md R150). -/
def xorSum (t : List Word) : Word := t.foldl (· ^^^ ·) 0

/-- `sum`: the sum of all entries modulo 2^32 (41_fixed_tables.md R150). -/
def plainSum (t : List Word) : Word := t.foldl (· + ·) 0

/-- The weighted sum of the entries, the first one counted `n` times, the next `n + 1` times. -/
def wsumFrom (n : Nat) : List Word → Word
  | [] => 0
  | v :: t => BitVec.ofNat 32 n * v + wsumFrom (n + 1) t

/-- `wsum`: the position-weighted sum `1*T[0] + 2*T[1] + ...` modulo 2^32 (41_fixed_tables.md R150,
42_key_schedule.md R171). -/
def wsum (t : List Word) : Word := wsumFrom 1 t

/-! ### SHA-256 (log 22) -/

/-- The eight working words of SHA-256. -/
structure ShaWords where
  /-- `a`. -/
  a : Word
  /-- `b`. -/
  b : Word
  /-- `c`. -/
  c : Word
  /-- `d`. -/
  d : Word
  /-- `e`. -/
  e : Word
  /-- `f`. -/
  f : Word
  /-- `g`. -/
  g : Word
  /-- `h`. -/
  h : Word
  deriving DecidableEq, Repr

/-- The initial hash value: the first 32 bits of the fractional parts of the square roots of the first
eight primes. -/
def shaInit : ShaWords :=
  ⟨0x6A09E667, 0xBB67AE85, 0x3C6EF372, 0xA54FF53A,
    0x510E527F, 0x9B05688C, 0x1F83D9AB, 0x5BE0CD19⟩

/-- The round constants: the first 32 bits of the fractional parts of the cube roots of the first 64
primes. -/
def shaConstants : List Word :=
  [0x428A2F98, 0x71374491, 0xB5C0FBCF, 0xE9B5DBA5, 0x3956C25B, 0x59F111F1, 0x923F82A4, 0xAB1C5ED5,
    0xD807AA98, 0x12835B01, 0x243185BE, 0x550C7DC3, 0x72BE5D74, 0x80DEB1FE, 0x9BDC06A7, 0xC19BF174] ++
  [0xE49B69C1, 0xEFBE4786, 0x0FC19DC6, 0x240CA1CC, 0x2DE92C6F, 0x4A7484AA, 0x5CB0A9DC, 0x76F988DA,
    0x983E5152, 0xA831C66D, 0xB00327C8, 0xBF597FC7, 0xC6E00BF3, 0xD5A79147, 0x06CA6351, 0x14292967] ++
  [0x27B70A85, 0x2E1B2138, 0x4D2C6DFC, 0x53380D13, 0x650A7354, 0x766A0ABB, 0x81C2C92E, 0x92722C85,
    0xA2BFE8A1, 0xA81A664B, 0xC24B8B70, 0xC76C51A3, 0xD192E819, 0xD6990624, 0xF40E3585, 0x106AA070] ++
  [0x19A4C116, 0x1E376C08, 0x2748774C, 0x34B0BCB5, 0x391C0CB3, 0x4ED8AA4A, 0x5B9CCA4F, 0x682E6FF3,
    0x748F82EE, 0x78A5636F, 0x84C87814, 0x8CC70208, 0x90BEFFFA, 0xA4506CEB, 0xBEF9A3F7, 0xC67178F2]

/-- The choice function: a bit of `f` where `e` has a one, of `g` where it has a zero. -/
def shaChoose (e f g : Word) : Word := (e &&& f) ^^^ (~~~e &&& g)

/-- The majority of three bits, bit by bit. -/
def shaMajority (a b c : Word) : Word := (a &&& b) ^^^ (a &&& c) ^^^ (b &&& c)

/-- The exclusive or of a word rotated right by three amounts. -/
def shaMix (m n k : Nat) (x : Word) : Word := rotr32 x m ^^^ rotr32 x n ^^^ rotr32 x k

/-- One round, with a round constant and a word of the message schedule. -/
def shaRound (s : ShaWords) (k w : Word) : ShaWords :=
  let t1 := s.h + shaMix 6 11 25 s.e + shaChoose s.e s.f s.g + k + w
  let t2 := shaMix 2 13 22 s.a + shaMajority s.a s.b s.c
  ⟨t1 + t2, s.a, s.b, s.c, s.d + t1, s.e, s.f, s.g⟩

/-- The next word of the message schedule; `w` holds the words before it, the latest first. -/
def shaNext (w : List Word) : Word :=
  let x2 := w.getD 1 0
  let x15 := w.getD 14 0
  (rotr32 x2 17 ^^^ rotr32 x2 19 ^^^ (x2 >>> 10)) + w.getD 6 0
    + (rotr32 x15 7 ^^^ rotr32 x15 18 ^^^ (x15 >>> 3)) + w.getD 15 0

/-- The message schedule with `n` more words, the latest first. -/
def shaSchedule : (n : Nat) → (w : List Word) → List Word
  | 0, w => w
  | n + 1, w => shaSchedule n (shaNext w :: w)

/-- The rounds, one for each pair of a round constant and a word of the message schedule. -/
def shaRounds : List (Word × Word) → ShaWords → ShaWords
  | [], s => s
  | (k, w) :: rest, s => shaRounds rest (shaRound s k w)

/-- The compression of one block of sixteen words into the hash value. -/
def shaBlock (s : ShaWords) (w : List Word) : ShaWords :=
  let r := shaRounds (shaConstants.zip (shaSchedule 48 w.reverse).reverse) s
  ⟨s.a + r.a, s.b + r.b, s.c + r.c, s.d + r.d, s.e + r.e, s.f + r.f, s.g + r.g, s.h + r.h⟩

/-- The compression of `n` blocks one after another. -/
def shaBlocks : (n : Nat) → (ws : List Word) → ShaWords → ShaWords
  | 0, _, s => s
  | n + 1, ws, s => shaBlocks n (ws.drop 16) (shaBlock s (ws.take 16))

/-- Bytes taken four at a time as words, the first byte most significant. -/
def bigEndianWords : List Byte → List Word
  | b3 :: b2 :: b1 :: b0 :: rest => word b0 b1 b2 b3 :: bigEndianWords rest
  | _ => []

/-- The padded message: a byte 0x80, zero bytes, and the length in bits as eight bytes, the most
significant first, to a multiple of 64 bytes. -/
def shaPadded (bytes : List Byte) : List Byte :=
  bytes ++ [0x80] ++ List.replicate ((119 - bytes.length % 64) % 64) 0x00 ++
    [7, 6, 5, 4, 3, 2, 1, 0].map fun i => BitVec.ofNat 8 (8 * bytes.length / 256 ^ i)

/-- `sha256`: the SHA-256 digest of a byte sequence, its first byte most significant
(41_fixed_tables.md R150, log 22). -/
def sha256 (bytes : List Byte) : BitVec 256 :=
  let ws := bigEndianWords (shaPadded bytes)
  let s := shaBlocks (ws.length / 16) ws shaInit
  s.a ++ s.b ++ s.c ++ s.d ++ s.e ++ s.f ++ s.g ++ s.h

end Sys2Proof.Machine
end

