-- ==== Sys2Proof/Machine/Script.lean ====
section
/-!
DEFINITION. The host script notation and its pseudo-instructions: what a line of a host program does
to the engine (30_encoding.md R103, R104; 70_reset_and_hazards.md R315 to R317).
-/

namespace Sys2Proof.Machine

/-- A line of a host script (30_encoding.md R103). -/
inductive ScriptLine where
  /-- `WR <reg>, <value>`. -/
  | wr (r : Reg) (v : Word)
  /-- `RD <reg>`. -/
  | rd (r : Reg)
  /-- `KSCHED <len>`. -/
  | ksched (len : Nat)
  /-- `ENC`. -/
  | enc
  /-- `DEC`. -/
  | dec
  /-- `ZEROIZE`. -/
  | zeroize
  /-- `RESET`; not a transaction. -/
  | reset
  deriving DecidableEq, Repr

/-- A line R103 gives: `KSCHED <len>` with `<len>` = 0 to 255 (30_encoding.md R103). -/
def ScriptLine.wf : ScriptLine → Bool
  | .wr _ _ => true
  | .rd _ => true
  | .ksched len => decide (len < 256)
  | .enc => true
  | .dec => true
  | .zeroize => true
  | .reset => true

/-- The event a script line stands for (30_encoding.md R103). DESIGN CHOICE for `KSCHED <len>` with
`<len>` above 255, which R103 does not give and `ScriptLine.wf` refuses: the formula is applied as it
stands, so `<len>` reaches into `RSV`, and bits above 31 are cut off when the write is served
(log 24, log 4). -/
def ScriptLine.event : ScriptLine → Event
  | .wr r v => .serve (.write r.offset 4 v.toNat)
  | .rd r => .serve (.read r.offset 4)
  | .ksched len => .serve (commandWrite (0x00000001 ||| (len <<< 8)))
  | .enc => .serve (commandWrite 0x00000002)
  | .dec => .serve (commandWrite 0x00000003)
  | .zeroize => .serve (commandWrite 0x00000004)
  | .reset => .reset

/-- A pseudo-instruction of a host script (30_encoding.md R104). -/
inductive PseudoLine where
  /-- `LDKEY <n bytes>`, n = 0 to 32. -/
  | ldkey (bytes : List Byte)
  /-- `SETKEY <n bytes>`. -/
  | setkey (bytes : List Byte)
  /-- `LDBLK <16 bytes>`. -/
  | ldblk (block : Vec Byte 16)
  /-- `RDBLK`. -/
  | rdblk
  /-- `ENCBLK <16 bytes>`. -/
  | encblk (block : Vec Byte 16)
  /-- `DECBLK <16 bytes>`. -/
  | decblk (block : Vec Byte 16)
  deriving DecidableEq, Repr

/-- A pseudo-instruction R104 gives: `LDKEY` and `SETKEY` with 0 to 32 bytes (30_encoding.md R104). -/
def PseudoLine.wf : PseudoLine → Bool
  | .ldkey bytes => decide (bytes.length ≤ Config.MAX_KEY_BYTES)
  | .setkey bytes => decide (bytes.length ≤ Config.MAX_KEY_BYTES)
  | .ldblk _ => true
  | .rdblk => true
  | .encblk _ => true
  | .decblk _ => true

/-- The eight key registers in order. -/
def keyRegs : List (Fin 8) := [0, 1, 2, 3, 4, 5, 6, 7]

/-- The four block registers in order. -/
def blockRegs : List (Fin 4) := [0, 1, 2, 3]

/-- `LDKEY` of `n` bytes, `n` = 0 to 32: one write to `KEYW[m]` for each `m` below `ceil(n/4)`, the last
word padded with zero bytes (30_encoding.md R104). DESIGN CHOICE for more than 32 bytes, which R104 does
not give and `PseudoLine.wf` refuses: there are eight key registers, so the first 32 bytes are written
and the rest are not (log 24). -/
def loadKey (bytes : List Byte) : List ScriptLine :=
  (keyRegs.filter fun m => 4 * m.val < bytes.length).map fun m =>
    .wr (.keyw m) (le32 bytes (4 * m.val))

/-- `LDBLK`: the four writes to `DIN` (30_encoding.md R104). -/
def loadBlock (block : Vec Byte 16) : List ScriptLine :=
  blockRegs.map fun m => .wr (.din m) (le32 block.toList (4 * m.val))

/-- `RDBLK`: the four reads of `DOUT` (30_encoding.md R104). -/
def readBlock : List ScriptLine := blockRegs.map fun m => .rd (.dout m)

/-- The expansion of a pseudo-instruction (30_encoding.md R104). DESIGN CHOICE for `SETKEY` of more than
32 bytes, which R104 does not give: `KSCHED` is issued with the number of bytes all the same (log 24). -/
def PseudoLine.expand : PseudoLine → List ScriptLine
  | .ldkey bytes => loadKey bytes
  | .setkey bytes => loadKey bytes ++ [.ksched bytes.length]
  | .ldblk block => loadBlock block
  | .rdblk => readBlock
  | .encblk block => loadBlock block ++ [.enc, .rd .status] ++ readBlock
  | .decblk block => loadBlock block ++ [.dec, .rd .status] ++ readBlock

/-- One event issued to the machine: it is placed before whatever is pending and the machine takes one
step. No step stops, so the last two arms are never taken (log 18). -/
def issue (ev : Event) (s : State) : State :=
  match step { s with pending := ev :: s.pending } with
  | .next s' => s'
  | .fault _ => s
  | .refused _ => s

/-- The lines of a script issued one after another, in program order (70_reset_and_hazards.md R321). -/
def runLines (lines : List ScriptLine) (s : State) : State :=
  lines.foldl (fun s l => issue l.event s) s

/-- The read data of the latest response; a write, or no response at all, has none. -/
def lastRead (s : State) : Option Word :=
  match s.responses.getLast? with
  | some (.read .okay v) => some v
  | _ => none

end Sys2Proof.Machine
end

