-- ==== Sys2Proof/Machine/Driver.lean ====
section
/-!
DEFINITION. The host driver: software outside the engine that reaches it only by transactions
(46_host_software.md). No definition of the engine uses this file (00_scope.md R5).
-/

namespace Sys2Proof.Machine

/-- What the driver keeps of the schedule cache; the Schedule half of the entry is the engine's own
state (46_host_software.md R262, log 17). -/
structure Cache where
  /-- `cacheFilled`, initially false. -/
  filled : Bool
  /-- `cachedKey`, up to 32 bytes. -/
  key : List Byte
  /-- `cachedLength`. -/
  length : Int
  deriving DecidableEq, Repr

/-- The cache before its first use: `cacheFilled` is false (46_host_software.md R262). DESIGN CHOICE:
R262 gives `cachedKey` and `cachedLength` no initial value, and the model gives them the empty list and
0, which nothing reads while `cacheFilled` is false; an emptied cache gets the same (log 23). -/
def Cache.empty : Cache := ⟨false, [], 0⟩

/-- A driver and the machine it drives. -/
structure DriverState where
  /-- The machine. -/
  machine : State
  /-- The driver's cache record. -/
  cache : Cache
  deriving DecidableEq, Repr

/-- `RD STATUS`, and the field `ERR` of what it reads (46_host_software.md R252, R253). The read is
always accepted, so the default is never used. -/
def readErr (s : State) : BitVec 4 × State :=
  let s' := issue (ScriptLine.rd .status).event s
  (statusErr ((lastRead s').getD 0), s')

/-- `setKey(key, length)`: a key that is absent or a length outside 0 to 255 is rejected without any
transaction; otherwise the key is loaded when the length is a key length, `KSCHED length` is issued,
and the result is `STATUS.ERR` (46_host_software.md R251, R252). For a length of 0 to 255 that is no
key length the driver lets the engine reject, one of the two choices R251 leaves (log 12). -/
def setKey (key : Option (List Byte)) (length : Int) (s : State) : BitVec 4 × State :=
  match key with
  | none => (ErrCode.invalidKey.code, s)
  | some bytes =>
    if length < 0 ∨ 255 < length then (ErrCode.invalidKey.code, s)
    else if validKeyLength length.toNat then
      readErr (runLines (loadKey ((List.range length.toNat).map fun i => bytes.getD i 0)
        ++ [.ksched length.toNat]) s)
    else readErr (runLines [.ksched length.toNat] s)

/-- The two block operations (46_host_software.md R253). -/
inductive BlockOp where
  /-- `ENC`. -/
  | enc
  /-- `DEC`. -/
  | dec
  deriving DecidableEq, Repr

/-- The command of a block operation. -/
def BlockOp.line : BlockOp → ScriptLine
  | .enc => .enc
  | .dec => .dec

/-- `RD DOUT[m]`: the word read. The read is always accepted, so the default is never used. -/
def readDout (m : Fin 4) (s : State) : Word × State :=
  let s' := issue (ScriptLine.rd (.dout m)).event s
  ((lastRead s').getD 0, s')

/-- `RDBLK`: the sixteen bytes of `DOUT`, each word least significant byte first
(46_host_software.md R253). -/
def readDoutBlock (s : State) : Vec Byte 16 × State :=
  let r0 := readDout 0 s
  let r1 := readDout 1 r0.2
  let r2 := readDout 2 r1.2
  let r3 := readDout 3 r2.2
  (⟨wordBytes r0.1 ++ wordBytes r1.1 ++ wordBytes r2.1 ++ wordBytes r3.1, rfl⟩, r3.2)

/-- `blockOp(op, block)`: `LDBLK`, the command, `RD STATUS`, and `RDBLK` when `ERR` = 0; otherwise the
code of the failure and no read of `DOUT` (46_host_software.md R253). -/
def blockOp (op : BlockOp) (block : Vec Byte 16) (s : State) :
    Except (BitVec 4) (Vec Byte 16) × State :=
  let r := readErr (runLines (loadBlock block ++ [op.line]) s)
  if r.1 = 0 then
    let d := readDoutBlock r.2
    (.ok d.1, d.2)
  else (.error r.1, r.2)

/-- The result of a wrapper call. -/
inductive WrapResult where
  /-- The blocks written; the number of bytes returned is their length (46_host_software.md R257). -/
  | done (output : List Byte)
  /-- The scratch buffer could not be had: a failed operation, zero bytes processed, no output byte
  written (46_host_software.md R256). -/
  | allocationFailure
  /-- A block operation failed with this code, there being no Schedule (46_host_software.md R253,
  log 13). -/
  | blockFailure (code : BitVec 4)
  deriving DecidableEq, Repr

/-- Chunk `c` of a buffer, bytes `16c` to `16c + 15` (46_host_software.md R257). -/
def chunk (buf : List Byte) (c : Nat) : Vec Byte 16 :=
  Vec.tabulate fun i => buf.getD (Config.BLOCK_BYTES * c + i.val) 0

/-- The chunk loop over `n` blocks from block `c` on, gathering the output (46_host_software.md R257,
R258). -/
def chunkLoop (op : BlockOp) (buf : List Byte) : (n c : Nat) → List Byte → State → WrapResult × State
  | 0, _, out, s => (.done out, s)
  | n + 1, c, out, s =>
    match blockOp op (chunk buf c) s with
    | (.error e, s') => (.blockFailure e, s')
    | (.ok b, s') => chunkLoop op buf n (c + 1) (out ++ b.toList) s'

/-- `alignedLength = ceil(length / 16) * 16` (46_host_software.md R254). -/
def alignedLength (length : Nat) : Nat :=
  (length + (Config.BLOCK_BYTES - 1)) / Config.BLOCK_BYTES * Config.BLOCK_BYTES

/-- The data to encrypt: the input, and the filler 0xFF up to the aligned length
(46_host_software.md R255). -/
def padded (input : List Byte) (length : Nat) : List Byte :=
  (List.range (alignedLength length)).map fun i =>
    if i < length then input.getD i 0 else Config.PAD_BYTE

/-- `encrypt(input, length, outCapacity)`; `allocOk` says whether a scratch buffer can be had when one
is needed (46_host_software.md R254 to R257). The output is written out whole blocks only. -/
def encrypt (allocOk : Bool) (input : List Byte) (length outCapacity : Nat) (s : State) :
    WrapResult × State :=
  if length ≠ alignedLength length ∧ allocOk = false then (.allocationFailure, s)
  else
    chunkLoop .enc (padded input length)
      (min (alignedLength length / Config.BLOCK_BYTES) (outCapacity / Config.BLOCK_BYTES)) 0 [] s

/-- `decrypt(input, length, outCapacity)`: a trailing partial block is dropped and nothing is stripped
(46_host_software.md R258). -/
def decrypt (input : List Byte) (length outCapacity : Nat) (s : State) : WrapResult × State :=
  chunkLoop .dec input
    (min (length / Config.BLOCK_BYTES) (outCapacity / Config.BLOCK_BYTES)) 0 [] s

/-- A reset of the engine with what the host owes its cache: the record is emptied, the engine holding
no Schedule any more (70_reset_and_hazards.md R312). -/
def hostReset (d : DriverState) : DriverState := ⟨issue .reset d.machine, Cache.empty⟩

/-- The cache holds this key: same length and the same bytes (46_host_software.md R263). -/
def Cache.holds (c : Cache) (key : Option (List Byte)) (length : Int) : Bool :=
  match key with
  | none => false
  | some bytes => c.filled && c.length == length && c.key == bytes.take length.toNat

/-- `withKey(key, length)`: reuse on a match, without any transaction; on a mismatch discard, set the
key, and fill the record only if that succeeded (46_host_software.md R263, R264). -/
def withKey (key : Option (List Byte)) (length : Int) (d : DriverState) : BitVec 4 × DriverState :=
  if d.cache.holds key length then (ErrCode.ok.code, d)
  else
    let r := setKey key length d.machine
    if r.1 = ErrCode.ok.code then
      (r.1, ⟨r.2, ⟨true, (key.getD []).take length.toNat, length⟩⟩)
    else (r.1, ⟨r.2, Cache.empty⟩)

/-- The result of a cached call: the error of `withKey`, or the result of the wrapper call. -/
inductive CachedResult where
  /-- `withKey` failed; nothing was transformed (46_host_software.md R264). -/
  | keyFailure (code : BitVec 4)
  /-- The wrapper's result. -/
  | wrapped (r : WrapResult)
  deriving DecidableEq, Repr

/-- `cachedEncrypt` (46_host_software.md R263). -/
def cachedEncrypt (key : Option (List Byte)) (keyLength : Int) (allocOk : Bool) (input : List Byte)
    (length outCapacity : Nat) (d : DriverState) : CachedResult × DriverState :=
  let k := withKey key keyLength d
  if k.1 = ErrCode.ok.code then
    let r := encrypt allocOk input length outCapacity k.2.machine
    (.wrapped r.1, ⟨r.2, k.2.cache⟩)
  else (.keyFailure k.1, k.2)

/-- `cachedDecrypt` (46_host_software.md R263). -/
def cachedDecrypt (key : Option (List Byte)) (keyLength : Int) (input : List Byte)
    (length outCapacity : Nat) (d : DriverState) : CachedResult × DriverState :=
  let k := withKey key keyLength d
  if k.1 = ErrCode.ok.code then
    let r := decrypt input length outCapacity k.2.machine
    (.wrapped r.1, ⟨r.2, k.2.cache⟩)
  else (.keyFailure k.1, k.2)

end Sys2Proof.Machine
end

