-- ==== Sys2Proof/Safety.lean ====
section
/-!
DEFINITION. What counts as a good state and a safe run, and what an observer can tell apart, in the
terms the statements use.
-/

namespace Sys2Proof.Machine

/-- The Schedule invariant (10_state.md R43): with `SVALID` = 1 the three arrays are the derivation
from some key words and an accepted length; with `SVALID` = 0 they are all zero. -/
def ScheduleInv (e : Engine) : Prop :=
  (e.svalid = true → ∃ kw len, validKeyLength len = true ∧ e.schedule = deriveSchedule kw len) ∧
  (e.svalid = false → e.schedule = Engine.reset.schedule)

/-- The status invariant (10_state.md R37, 60_exceptions.md R280): only the codes 0 to 3 appear, and
`NoSchedule` only ever stands with `SVALID` = 0. -/
def StatusInv (e : Engine) : Prop := e.err.toNat ≤ 3 ∧ (e.err = 2 → e.svalid = false)

/-- The states a run from reset can reach satisfy this, and every step keeps it. -/
def Inv (s : State) : Prop := ScheduleInv s.engine ∧ StatusInv s.engine

/-- `n` steps of the machine. -/
def run (n : Nat) (s : State) : Host.Outcome State Fault Refusal := Host.Core.run Sys2Proof.core n s

/-- A safe run: however many steps are taken, none stops (20_memory.md R82, 60_exceptions.md R297). -/
def SafeRun (s : State) : Prop := ∀ n, ∃ t, run n s = .next t

/-- The events issued one after another. -/
def issueAll (evs : List Event) (s : State) : State := evs.foldl (fun s ev => issue ev s) s

/-- What an observer sees: the responses an engine gives to a list of events (20_memory.md R81). -/
def observed (e : Engine) (evs : List Event) : List Response := (issueAll evs ⟨e, [], []⟩).responses

/-- A command word that installs or discards a Schedule: an accepted `KSCHED`, or `ZEROIZE`
(10_state.md R33). -/
def commandChangesSchedule (w : Word) : Bool :=
  match decode w with
  | .ok (.ksched len) => validKeyLength len
  | .ok .enc => false
  | .ok .dec => false
  | .ok .zeroize => true
  | .error _ => false

/-- An event that installs or discards a Schedule: a reset, or an accepted write of such a command
word to `CMD` (10_state.md R33). -/
def Event.changesSchedule : Event → Bool
  | .reset => true
  | .serve (.read _ _) => false
  | .serve (.write off size wdata) =>
    match writeAt off size with
    | .ok .cmd => commandChangesSchedule (BitVec.ofNat 32 wdata)
    | .ok (.keyw _) => false
    | .ok (.din _) => false
    | .error _ => false

/-- The driver's cache invariant (46_host_software.md R262): a filled cache holds the bytes and the
length of the key from which the engine's valid Schedule was derived. -/
def CacheInv (d : DriverState) : Prop :=
  d.cache.filled = true → ∃ (len : Nat) (kw : Vec Word 8),
    d.cache.length = (len : Int) ∧ validKeyLength len = true ∧
    (∀ j : Fin 32, j.val < len → keyByte kw j = d.cache.key.getD j.val 0) ∧
    d.machine.engine.svalid = true ∧ d.machine.engine.schedule = deriveSchedule kw len

/-- An event that is an accepted `CMD` write: the only kind of transaction that writes `ERR`
(10_state.md R34). -/
def Event.isCommand : Event → Bool
  | .reset => false
  | .serve (.read _ _) => false
  | .serve (.write off size _) =>
    match writeAt off size with
    | .ok .cmd => true
    | .ok (.keyw _) => false
    | .ok (.din _) => false
    | .error _ => false

end Sys2Proof.Machine
end

