-- ==== Sys2Proof/Certificates/Slice0/Obligations.lean ====
section
/-!
DEFINITION. The statements for the provers. They come from the numbered rules of spec/, file by file.
-/

open Sys2Proof Sys2Proof.Machine

/-! ### Command words (30_encoding.md) -/

/-- Decoding the encoding of any well-formed command gives the command back (R90, R92, R95). -/
def Obligations.DecodeInvertsEncode : Prop :=
  ∀ i : Instr, i.wf = true → decode (encode i) = .ok i

/-- Every word the decoder accepts is the encoding of the well-formed command it answers: no bit of a
command word is ignored (R95, R100). -/
def Obligations.EncodeInvertsDecode : Prop :=
  ∀ (w : Word) (i : Instr), decode w = .ok i → i.wf = true ∧ encode i = w

/-- The worked encodings of R96, each decoding to its command and each the command's encoding. -/
def Obligations.WorkedEncodingsDecode : Prop :=
  ∀ p ∈ ([(0x00000801, .ksched 8), (0x00001001, .ksched 16), (0x00001801, .ksched 24),
      (0x00002001, .ksched 32), (0x00000001, .ksched 0), (0x00000701, .ksched 7),
      (0x00000F01, .ksched 15), (0x00001101, .ksched 17), (0x00002101, .ksched 33),
      (0x0000FF01, .ksched 255), (0x00000002, .enc), (0x00000003, .dec),
      (0x00000004, .zeroize)] : List (Word × Instr)),
    decode p.1 = .ok p.2 ∧ encode p.2 = p.1

/-- The decoder follows the opcode map: a word decodes exactly when a row selects it, and then the
selecting row is the one row of the command's mnemonic, so the rows are disjoint (R95). -/
def Obligations.DecodeFollowsOpcodeMap : Prop :=
  ∀ w : Word,
    ((∃ i, decode w = .ok i) ↔ ∃ r ∈ opcodeMap, r.selects w = true) ∧
    ∀ i, decode w = .ok i → ∀ r ∈ opcodeMap, (r.selects w = true ↔ r.mnemonic = i.mnemonic)

/-- Illegal words (R100): which they are; what a `CMD` write of one does (`ERR` becomes 3, nothing
else of the engine changes, the write is answered `OKAY`); and the rule's examples. -/
def Obligations.IllegalWordWritesOnlyErr : Prop :=
  (∀ w : Word, (∃ r, decode w = .error r) ↔
    (rsvField w ≠ 0 ∨ opField w = 0x00 ∨ 0x05 ≤ (opField w).toNat ∨
      ((opField w = 0x02 ∨ opField w = 0x03 ∨ opField w = 0x04) ∧ lenField w ≠ 0))) ∧
  (∀ (s : State) (w : Word) (r : IllegalWord) (rest : List Event), decode w = .error r →
    s.pending = .serve (.write 0x0000 4 w.toNat) :: rest →
    step s = .next ⟨{ s.engine with err := 3 }, rest, s.responses ++ [.write .okay]⟩) ∧
  (∀ w ∈ ([0x00000000, 0x00000005, 0x000000FF, 0x00010001, 0x00001002, 0xFFFFFFFF] : List Word),
    ∃ r, decode w = .error r)

/-! ### Arithmetic (40_gf256_arithmetic.md) -/

/-- The laws of the rotates, and the examples (R120). -/
def Obligations.RotatesWrapModulo32 : Prop :=
  (∀ (x : Word) (n : Nat), rotl32 x n = rotl32 x (n % 32) ∧ rotr32 x n = rotr32 x (n % 32) ∧
    rotr32 x n = rotl32 x ((32 - n % 32) % 32) ∧ rotr32 (rotl32 x n) n = x ∧
    rotl32 (rotr32 x n) n = x) ∧
  (∀ x : Word, rotl32 x 0 = x ∧ rotl32 x 32 = x ∧ rotl32 x 33 = rotl32 x 1) ∧
  rotl32 0x80000001 1 = 0x00000003 ∧ rotr32 0x80000001 1 = 0xC0000000 ∧
  rotl32 0x12345678 8 = 0x34567812 ∧ rotl32 0x12345678 9 = 0x68ACF024

/-- A word is the word of its lanes, and the lanes of a word of bytes are the bytes (R121). -/
def Obligations.WordsAndLanesInverse : Prop :=
  (∀ x : Word, word (lane 0 x) (lane 1 x) (lane 2 x) (lane 3 x) = x) ∧
  ∀ y0 y1 y2 y3 : Byte,
    lane 0 (word y0 y1 y2 y3) = y0 ∧ lane 1 (word y0 y1 y2 y3) = y1 ∧
    lane 2 (word y0 y1 y2 y3) = y2 ∧ lane 3 (word y0 y1 y2 y3) = y3

/-- `lfsr1` and `lfsr2` divide by `a` and `a^2` in the MDS field, and the diffusion multipliers
multiply by 0x5B and 0xEF in it (R125, R126, R127). -/
def Obligations.MultipliersMatchMdsField : Prop :=
  ∀ x : Byte, gfmul (lfsr1 x) 0x02 Config.MDS_GF_FDBK = x ∧ lfsr2 x = lfsr1 (lfsr1 x) ∧
    mul1 x = x ∧ mulX x = gfmul x 0x5B Config.MDS_GF_FDBK ∧ mulY x = gfmul x 0xEF Config.MDS_GF_FDBK

/-- `rsRemainder` lane by lane, its two feedback multipliers as products in the RS field, and its
linearity (R128). -/
def Obligations.RsRemainderByLanes : Prop :=
  (∀ x : Word, rsRemainder x =
    word (lane 3 x) (lane 0 x ^^^ rsG3 (lane 3 x)) (lane 1 x ^^^ rsG2 (lane 3 x))
      (lane 2 x ^^^ rsG3 (lane 3 x))) ∧
  (∀ b : Byte, rsG2 b = gfmul b 0x02 Config.RS_GF_FDBK ∧
    gfmul (rsG3 b ^^^ rsG2 b) 0x02 Config.RS_GF_FDBK = b) ∧
  (∀ x y : Word, rsRemainder (x ^^^ y) = rsRemainder x ^^^ rsRemainder y) ∧
  (∀ x : Word, lane 3 x = 0 → rsRemainder x = x <<< 8)

/-- `rsEncode` is linear over GF(2) in the pair of key words (R129). -/
def Obligations.RsEncodeLinear : Prop :=
  ∀ k0 k1 m0 m1 : Word, rsEncode (k0 ^^^ m0) (k1 ^^^ m1) = rsEncode k0 k1 ^^^ rsEncode m0 m1

/-- `rsEncode` equals its 4 by 8 matrix form over the RS field, byte lane by byte lane (R130). -/
def Obligations.RsEncodeIsMatrixProduct : Prop :=
  ∀ (r : Fin 4) (k0 k1 : Word), lane r (rsEncode k0 k1) = rsMatrixLane r k0 k1

/-! ### Fixed tables (41_fixed_tables.md) -/

/-- The two permutation tables are permutations, and equal to their construction (R140, R143). -/
def Obligations.QTablesArePermutations : Prop :=
  (∀ s : Fin 2, Function.Bijective (Q s)) ∧ ∀ (s : Fin 2) (x : Byte), Q s x = qperm (qNibbles s) x

/-- The engine's `MDSQ` folds the last permutation of each lane into the matrix column, and equals the
printed tables entry by entry (R148, R149). -/
def Obligations.MdsqEqualsPrintedTables : Prop :=
  (∀ i : Byte, MDSQ 0 i = mdsCol 0 (Q 1 i) ∧ MDSQ 1 i = mdsCol 1 (Q 0 i) ∧
    MDSQ 2 i = mdsCol 2 (Q 1 i) ∧ MDSQ 3 i = mdsCol 3 (Q 0 i)) ∧
  ∀ (j : Fin 4) (i : Byte), MDSQ j i = mdsqPrinted j i

/-- The MDS matrix product is the sum of the columns, each column linear over GF(2) with 0 mapped to
0 (R146, R147). -/
def Obligations.MdsProductIsSumOfColumns : Prop :=
  (∀ x : Word, mdsMul x =
    mdsCol 0 (lane 0 x) ^^^ mdsCol 1 (lane 1 x) ^^^ mdsCol 2 (lane 2 x) ^^^ mdsCol 3 (lane 3 x)) ∧
  ∀ (j : Fin 4) (x y : Byte), mdsCol j (x ^^^ y) = mdsCol j x ^^^ mdsCol j y ∧ mdsCol j 0 = 0

/-- The checksums of the six tables, all four columns of the rule's table; and why `xor` and `sum` are
what they are: every byte lane of every `MDSQ[j]` takes each value exactly once, and the `sum` is that of
the bytes in each lane (R150; what SHA-256 computes is taken from outside the spec, log 22). -/
def Obligations.TableChecksums : Prop :=
  (∀ r ∈ ([
      (0, 0x003DD69A, 0x0e645a5e8af7a03377460f11fb62dccbe409d403259af4be5fdfa22641938fd9),
      (1, 0x003DD8D8, 0xfb231e7fd8f1f24b5b212db76efe657ca1e2e660429021755ed6ace57fb49a01)] :
      List (Fin 2 × Word × BitVec 256)),
    xorSum ((qTable r.1).map zext) = 0x00 ∧ plainSum ((qTable r.1).map zext) = 32640 ∧
    wsum ((qTable r.1).map zext) = r.2.1 ∧ sha256 (qTable r.1) = r.2.2) ∧
  (∀ r ∈ ([
      (0, 0x8617FED8, 0xca1a4e7d1fd5fdfbab163587b1bc1a608f578a475571bceb2f05d2cbe74626ad),
      (1, 0xDF0A4750, 0x41f98d4e169e5a4e695871e34e3d217ad760534c43406df15f2eefad15e7dc82),
      (2, 0xADC9DA26, 0x96ac949a58e733c6a4866d84c31b123d85061eb8d743ce9db27c0b07f9a287b2),
      (3, 0x07689DD2, 0xd795eba3f9ea2716e199978e96ece014cf91595073c5e90751374761d9260a2b)] :
      List (Fin 4 × Word × BitVec 256)),
    xorSum (mdsqTable r.1) = 0x00000000 ∧ plainSum (mdsqTable r.1) = 0xFFFFFF80 ∧
    wsum (mdsqTable r.1) = r.2.1 ∧ sha256 ((mdsqTable r.1).flatMap wordBytes) = r.2.2) ∧
  (∀ j k : Fin 4, Function.Bijective fun i : Byte => lane k (MDSQ j i)) ∧
  32640 * 0x01010101 % 2 ^ 32 = 0xFFFFFF80

/-! ### The round function F32 (43_round_function_f32.md) -/

/-- F32 is four independent byte lanes and one XOR of their words (R196). -/
def Obligations.F32IsSumOfLanes : Prop :=
  ∀ (cls : Fin 4) (x : Word) (k : Vec Word 4), F32 cls x k =
    laneF32 cls 0 (lane 0 x) k ^^^ laneF32 cls 1 (lane 1 x) k ^^^
    laneF32 cls 2 (lane 2 x) k ^^^ laneF32 cls 3 (lane 3 x) k

/-- Key words a class does not use are ignored; in the engine the unused slots are zero; and the
rule's example (R195). -/
def Obligations.F32IgnoresUnusedKeyWords : Prop :=
  (∀ (x : Word) (k k' : Vec Word 4), k.get 0 = k'.get 0 → F32 1 x k = F32 1 x k') ∧
  (∀ (x : Word) (k k' : Vec Word 4), k.get 0 = k'.get 0 → k.get 1 = k'.get 1 →
    F32 2 x k = F32 2 x k') ∧
  (∀ (x : Word) (k k' : Vec Word 4), k.get 0 = k'.get 0 → k.get 1 = k'.get 1 →
    k.get 2 = k'.get 2 → F32 3 x k = F32 3 x k') ∧
  (∀ (kw : Vec Word 8) (len : Nat) (i : Fin 4), k64Cnt len ≤ i.val →
    (k32e kw len).get i = 0 ∧ (k32o kw len).get i = 0) ∧
  F32 2 0x12345678 ⟨[0x67452301, 0x98BADCFE, 0, 0], rfl⟩ = 0xF6F36E84 ∧
  F32 2 0x12345678 ⟨[0x67452301, 0x98BADCFE, 0xDEADBEEF, 0xCAFEBABE], rfl⟩ = 0xF6F36E84

/-! ### The key schedule and KSCHED (42_key_schedule.md) -/

/-- `KSCHED` with an accepted length completes: the three arrays become the derivation of the key in
`KEYW`, `SVALID` becomes 1, `ERR` becomes 0, and nothing else changes (R160, R167). -/
def Obligations.KschedPublishesSchedule : Prop :=
  ∀ (len : Nat) (s : State), (len = 8 ∨ len = 16 ∨ len = 24 ∨ len = 32) →
    exec (.ksched len) s = .next { s with engine :=
      { s.engine with
        sboxkey := (deriveSchedule s.engine.keyw len).sboxkey
        subkey := (deriveSchedule s.engine.keyw len).subkey
        xsbox := (deriveSchedule s.engine.keyw len).xsbox
        svalid := true
        err := 0 } }

/-- `KSCHED` with any other length writes `ERR` = 1 and nothing else; which lengths are accepted, in
the rule's two forms; and how many of the 256 values are (R161). -/
def Obligations.KschedRejectsBadLength : Prop :=
  (∀ (len : Nat) (s : State), ¬ (len = 8 ∨ len = 16 ∨ len = 24 ∨ len = 32) →
    exec (.ksched len) s = .next { s with engine := { s.engine with err := 1 } }) ∧
  (∀ len : Nat, validKeyLength len = true ↔ (len = 8 ∨ len = 16 ∨ len = 24 ∨ len = 32)) ∧
  (∀ len : Nat, validKeyLength len = true ↔ (len ≠ 0 ∧ len ≤ 32 ∧ len % 8 = 0)) ∧
  ((List.range 256).filter validKeyLength).length = 4 ∧
  (∀ len ∈ [0, 7, 15, 17, 33], validKeyLength len = false)

/-- The split into even and odd key words: the first `k64Cnt` pairs are read, in words and in bytes,
and the remaining slots are zero (R162). -/
def Obligations.KeySplitsIntoEvenAndOddWords : Prop :=
  ∀ (kw : Vec Word 8) (len : Nat) (i : Fin 4),
    (i.val < len / 8 →
      (k32e kw len).get i = kw.get ⟨2 * i.val, by omega⟩ ∧
      (k32o kw len).get i = kw.get ⟨2 * i.val + 1, by omega⟩ ∧
      (k32e kw len).get i = word (keyByte kw ⟨8 * i.val, by omega⟩)
        (keyByte kw ⟨8 * i.val + 1, by omega⟩) (keyByte kw ⟨8 * i.val + 2, by omega⟩)
        (keyByte kw ⟨8 * i.val + 3, by omega⟩) ∧
      (k32o kw len).get i = word (keyByte kw ⟨8 * i.val + 4, by omega⟩)
        (keyByte kw ⟨8 * i.val + 5, by omega⟩) (keyByte kw ⟨8 * i.val + 6, by omega⟩)
        (keyByte kw ⟨8 * i.val + 7, by omega⟩)) ∧
    (len / 8 ≤ i.val → (k32e kw len).get i = 0 ∧ (k32o kw len).get i = 0)

/-- The S-box key words are stored in reversed order and the unused entries are zero; and the rule's
24-byte example, intermediate words included (R163). -/
def Obligations.SboxKeyWordsReversed : Prop :=
  (∀ (kw : Vec Word 8) (len : Nat), validKeyLength len = true →
    (∀ (i : Fin 4) (m : Fin 4), i.val < len / 8 → m.val = len / 8 - 1 - i.val →
      (deriveSchedule kw len).sboxkey.get m =
        rsEncode (kw.get ⟨2 * i.val, by omega⟩) (kw.get ⟨2 * i.val + 1, by omega⟩)) ∧
    (∀ m : Fin 4, len / 8 ≤ m.val → (deriveSchedule kw len).sboxkey.get m = 0)) ∧
  let key : Vec Word 8 :=
    ⟨[0x67452301, 0xEFCDAB89, 0x98BADCFE, 0x10325476, 0x33221100, 0x77665544, 0, 0], rfl⟩
  k32e key 24 = ⟨[0x67452301, 0x98BADCFE, 0x33221100, 0], rfl⟩ ∧
  k32o key 24 = ⟨[0xEFCDAB89, 0x10325476, 0x77665544, 0], rfl⟩ ∧
  rsEncode 0x67452301 0xEFCDAB89 = 0xB89FF6F2 ∧ rsEncode 0x98BADCFE 0x10325476 = 0xB255BC4B ∧
  rsEncode 0x33221100 0x77665544 = 0x45661061 ∧
  (deriveSchedule key 24).sboxkey = ⟨[0x45661061, 0xB255BC4B, 0xB89FF6F2, 0], rfl⟩

/-- The 40 subkey words, pair by pair, and the F32 inputs as words of four equal bytes (R164, R165); the
class `cls` is `k64Cnt mod 4`, with `k64Cnt` the length divided by 8 (R162). -/
def Obligations.SubkeyPairsByHadamard : Prop :=
  ((∀ len : Nat, (keyClass len).val = len / 8 % 4) ∧
    keyClass 8 = 1 ∧ keyClass 16 = 2 ∧ keyClass 24 = 3 ∧ keyClass 32 = 0) ∧
  (∀ (kw : Vec Word 8) (len : Nat) (p : Fin 20),
    let q : Word := BitVec.ofNat 32 (p.val * 0x02020202)
    let A := F32 (keyClass len) q (k32e kw len)
    let B := rotl32 (F32 (keyClass len) (q + 0x01010101) (k32o kw len)) 8
    (deriveSchedule kw len).subkey.get ⟨2 * p.val, by omega⟩ = A + B ∧
    (deriveSchedule kw len).subkey.get ⟨2 * p.val + 1, by omega⟩ = rotl32 (A + B + B) 9) ∧
  ∀ p : Fin 20,
    let b : Byte := BitVec.ofNat 8 (2 * p.val)
    BitVec.ofNat 32 (p.val * 0x02020202) = word b b b b ∧
    BitVec.ofNat 32 (p.val * 0x02020202) + 0x01010101 = word (b + 1) (b + 1) (b + 1) (b + 1)

/-- The expanded table: its index layout, lane by lane, is a bijection, the entry of lane `j` and byte `i` is the
lane function of that byte under the S-box key words, and the four look-ups of a word make F32 of it
(R166, with the layout of R42). -/
def Obligations.ExpandedTableHoldsLanes : Prop :=
  (∀ i : Byte, (XIDX 0 i).val = 2 * i.toNat ∧ (XIDX 1 i).val = 2 * i.toNat + 1 ∧
    (XIDX 2 i).val = 0x200 + 2 * i.toNat ∧ (XIDX 3 i).val = 0x200 + 2 * i.toNat + 1) ∧
  Function.Bijective (fun p : Fin 4 × Byte => XIDX p.1 p.2) ∧
  ∀ (kw : Vec Word 8) (len : Nat),
    (∀ (j : Fin 4) (i : Byte), (deriveSchedule kw len).xsbox.get (XIDX j i) =
      laneF32 (keyClass len) j i (deriveSchedule kw len).sboxkey) ∧
    ∀ x : Word, g (deriveSchedule kw len).xsbox x =
      F32 (keyClass len) x (deriveSchedule kw len).sboxkey

/-- A Schedule depends on the first `LEN` key bytes alone (R168, R169). -/
def Obligations.ScheduleDependsOnKeyBytesAlone : Prop :=
  ∀ (kw kw' : Vec Word 8) (len : Nat), validKeyLength len = true →
    (∀ j : Fin 32, j.val < len → keyByte kw j = keyByte kw' j) →
    deriveSchedule kw len = deriveSchedule kw' len

/-! ### The block transform, ENC and DEC (44_block_transform.md) -/

/-- The four table look-ups of `g`, by their indices; when the Schedule is the derivation from some key
words and an accepted length, they compute F32 under the S-box key words for the class of that length;
and whenever `SVALID` = 1 there are such key words and such a length (R212). The Schedule invariant is a
statement of its own. -/
def Obligations.TableLookupsComputeF32 : Prop :=
  (∀ (X : Vec Word 1024) (x : Word) (i0 i1 i2 i3 : Fin 1024),
    i0.val = 2 * (lane 0 x).toNat → i1.val = 2 * (lane 1 x).toNat + 1 →
    i2.val = 0x200 + 2 * (lane 2 x).toNat → i3.val = 0x200 + 2 * (lane 3 x).toNat + 1 →
    g X x = X.get i0 ^^^ X.get i1 ^^^ X.get i2 ^^^ X.get i3) ∧
  (∀ (e : Engine) (kw : Vec Word 8) (len : Nat), validKeyLength len = true →
    e.schedule = deriveSchedule kw len →
    ∀ x : Word, g e.xsbox x = F32 (keyClass len) x e.sboxkey) ∧
  ∀ e : Engine, ScheduleInv e → e.svalid = true →
    ∃ kw len, validKeyLength len = true ∧ e.schedule = deriveSchedule kw len ∧
      ∀ x : Word, g e.xsbox x = F32 (keyClass len) x e.sboxkey

/-- The look-ups of `t1`: the same four tables addressed by the bytes moved up one lane (R213). -/
def Obligations.RotatedLookupMovesLanes : Prop :=
  ∀ (X : Vec Word 1024) (x : Word), g X (rotl32 x 8) =
    X.get (XIDX 0 (lane 3 x)) ^^^ X.get (XIDX 1 (lane 0 x)) ^^^
    X.get (XIDX 2 (lane 1 x)) ^^^ X.get (XIDX 3 (lane 2 x))

/-- A decryption round, by its formula, undoes the encryption round of the same inputs (R215). -/
def Obligations.DecRoundInvertsEncRound : Prop :=
  ∀ (X : Vec Word 1024) (a b c d ka kb : Word),
    decRound X a b c d ka kb =
      (rotl32 c 1 ^^^ (g X a + g X (rotl32 b 8) + ka),
        rotr32 (d ^^^ (g X a + (g X (rotl32 b 8) + g X (rotl32 b 8)) + kb)) 1) ∧
    decRound X a b (encRound X a b c d ka kb).1 (encRound X a b c d ka kb).2 ka kb = (c, d)

/-- `ENC` with a valid Schedule completes: `DOUT` becomes the encryption of `DIN`, `ERR` becomes 0, and
nothing else changes (R216). -/
def Obligations.EncDeliversCiphertext : Prop :=
  ∀ s : State, s.engine.svalid = true →
    exec .enc s = .next { s with engine :=
      { s.engine with dout := encBlock s.engine.xsbox s.engine.subkey s.engine.din, err := 0 } }

/-- `DEC` with a valid Schedule completes: `DOUT` becomes the decryption of `DIN`, `ERR` becomes 0, and
nothing else changes (R220). -/
def Obligations.DecDeliversPlaintext : Prop :=
  ∀ s : State, s.engine.svalid = true →
    exec .dec s = .next { s with engine :=
      { s.engine with dout := decBlock s.engine.xsbox s.engine.subkey s.engine.din, err := 0 } }

/-- `ENC` and `DEC` without a Schedule write `ERR` = 2 and nothing else; with one they do not raise
(R210). -/
def Obligations.BlockCommandsNeedSchedule : Prop :=
  (∀ s : State, s.engine.svalid = false →
    exec .enc s = .next { s with engine := { s.engine with err := 2 } } ∧
    exec .dec s = .next { s with engine := { s.engine with err := 2 } }) ∧
  ∀ s : State, s.engine.svalid = true →
    (∃ t, exec .enc s = .next t ∧ t.engine.err = 0) ∧ ∃ t, exec .dec s = .next t ∧ t.engine.err = 0

/-- Round trip: `DEC` of what `ENC` delivered gives the block back, and the other way round; so for a
fixed Schedule `ENC` is a bijection of the blocks and `DEC` its inverse (R221). It holds for any
contents of the Schedule. -/
def Obligations.EncryptDecryptRoundTrip : Prop :=
  (∀ s : State, s.engine.svalid = true →
    (∃ t u, exec .enc s = .next t ∧
      exec .dec { t with engine := { t.engine with din := t.engine.dout } } = .next u ∧
      u.engine.dout = s.engine.din) ∧
    ∃ t u, exec .dec s = .next t ∧
      exec .enc { t with engine := { t.engine with din := t.engine.dout } } = .next u ∧
      u.engine.dout = s.engine.din) ∧
  ∀ (X : Vec Word 1024) (K : Vec Word 40), Function.Bijective (encBlock X K) ∧
    Function.LeftInverse (decBlock X K) (encBlock X K) ∧
    Function.RightInverse (decBlock X K) (encBlock X K)

/-- The one-round-with-swap form of the encryption gives the same block (R217). -/
def Obligations.SwapFormEncryptsTheSame : Prop :=
  ∀ (X : Vec Word 1024) (K : Vec Word 40) (b : Vec Word 4), encBlockSwap X K b = encBlock X K b

/-! ### ZEROIZE, errors and reset (45, 60, 70, 10) -/

/-- `ZEROIZE`, the word 0x00000004, completes from every state: every register becomes zero, which is
the reset state; twice is the same as once; directly after reset it changes nothing; and `ENC` and
`DEC` after it raise `NoSchedule` (R240). -/
def Obligations.ZeroizeClearsEngine : Prop :=
  decode 0x00000004 = .ok .zeroize ∧
  (∀ s : State, exec .zeroize s = .next { s with engine := {
    keyw := Vec.replicate 8 0, din := Vec.replicate 4 0, dout := Vec.replicate 4 0,
    sboxkey := Vec.replicate 4 0, subkey := Vec.replicate 40 0, xsbox := Vec.replicate 1024 0,
    svalid := false, err := 0 } }) ∧
  (∀ s : State, ∃ t, exec .zeroize s = .next t ∧ t.engine = State.reset.engine ∧
    exec .zeroize t = .next t ∧
    exec .enc t = .next { t with engine := { t.engine with err := 2 } } ∧
    exec .dec t = .next { t with engine := { t.engine with err := 2 } }) ∧
  exec .zeroize State.reset = .next State.reset

/-- The state after reset: every register zero, `SVALID` and `ERR` zero, `STATUS` reads zero, and `CMD`
has no value (R55). -/
def Obligations.ResetZeroesEverything : Prop :=
  (∀ i, State.reset.engine.keyw.get i = 0) ∧ (∀ i, State.reset.engine.din.get i = 0) ∧
  (∀ i, State.reset.engine.dout.get i = 0) ∧ (∀ i, State.reset.engine.sboxkey.get i = 0) ∧
  (∀ i, State.reset.engine.subkey.get i = 0) ∧ (∀ i, State.reset.engine.xsbox.get i = 0) ∧
  State.reset.engine.svalid = false ∧ State.reset.engine.err = 0 ∧
  State.reset.engine.status = 0x00000000 ∧ State.reset.engine.readReg .cmd = none

/-- All or nothing: every command word, from every state, has a next state; and if that has `ERR` not
0, it is the old state with only `ERR` replaced (R288). -/
def Obligations.ErrorsAreAllOrNothing : Prop :=
  ∀ (w : Word) (s : State), ∃ t, runCommand w s = .next t ∧
    (t.engine.err ≠ 0 → t = { s with engine := { s.engine with err := t.engine.err } })

/-- `ERR` after a transaction: the result of the command if the transaction was an accepted `CMD`
write, in the order of checks of R286; otherwise what it was (R34, R286). -/
def Obligations.ErrIsResultOfLatestCommand : Prop :=
  ∀ (s : State) (tr : Transaction) (rest : List Event), s.pending = .serve tr :: rest →
    ∃ t, step s = .next t ∧ t.engine.err =
      match tr with
      | .read _ _ => s.engine.err
      | .write off size d =>
        if size = 4 ∧ off = 0x0000 then
          match decode (BitVec.ofNat 32 d) with
          | .error _ => 3
          | .ok (.ksched len) => if len = 8 ∨ len = 16 ∨ len = 24 ∨ len = 32 then 0 else 1
          | .ok .enc => if s.engine.svalid then 0 else 2
          | .ok .dec => if s.engine.svalid then 0 else 2
          | .ok .zeroize => 0
        else s.engine.err

/-! ### The register window (20_memory.md) -/

/-- The register map: the offset of every register, in the rule's numbers; a register's offset is a
multiple of 4 and leads back to the register, a word offset that holds a register is that register's
offset, and 1086 of the 2048 word offsets hold one (R61, R67). -/
def Obligations.RegisterMapIsOneToOne : Prop :=
  (Reg.cmd.offset.toNat = 0x0000 ∧ Reg.status.offset.toNat = 0x0004 ∧
    (∀ n : Fin 8, (Reg.keyw n).offset.toNat = 0x0010 + 4 * n.val) ∧
    (∀ n : Fin 4, (Reg.din n).offset.toNat = 0x0030 + 4 * n.val) ∧
    (∀ n : Fin 4, (Reg.dout n).offset.toNat = 0x0040 + 4 * n.val) ∧
    (∀ n : Fin 4, (Reg.sboxkey n).offset.toNat = 0x0050 + 4 * n.val) ∧
    (∀ n : Fin 40, (Reg.subkey n).offset.toNat = 0x0100 + 4 * n.val) ∧
    ∀ n : Fin 1024, (Reg.xsbox n).offset.toNat = 0x1000 + 4 * n.val) ∧
  (∀ r : Reg, r.offset.toNat % 4 = 0 ∧ regAtWord (r.offset.toNat / 4) = some r) ∧
  (∀ (k : Nat) (r : Reg), regAtWord k = some r → r.offset.toNat = 4 * k) ∧
  ((List.range 2048).filter fun k => (regAtWord k).isSome).length = 1086

/-- Refused transactions answer `BUSERR`, with read data 0, and change no register; every other one is
answered `OKAY` (R66, the reserved offsets of R67). -/
def Obligations.RefusedTransactionsChangeNothing : Prop :=
  ∀ (s : State) (off : Offset) (size d : Nat) (rest : List Event),
    let o := off.toNat
    let shared := size ≠ 4 ∨ o % 4 ≠ 0 ∨ (0x0008 ≤ o ∧ o < 0x0010) ∨ (0x0060 ≤ o ∧ o < 0x0100) ∨
      (0x01A0 ≤ o ∧ o < 0x1000)
    let badRead := shared ∨ o = 0x0000
    let badWrite := shared ∨ o = 0x0004 ∨ (0x0040 ≤ o ∧ o < 0x0060) ∨ (0x0100 ≤ o ∧ o < 0x01A0) ∨
      0x1000 ≤ o
    (s.pending = .serve (.read off size) :: rest →
      (badRead → step s = .next ⟨s.engine, rest, s.responses ++ [.read .buserr 0]⟩) ∧
      (¬ badRead → ∃ t v, step s = .next t ∧ t.responses = s.responses ++ [.read .okay v])) ∧
    (s.pending = .serve (.write off size d) :: rest →
      (badWrite → step s = .next ⟨s.engine, rest, s.responses ++ [.write .buserr]⟩) ∧
      (¬ badWrite → ∃ t, step s = .next t ∧ t.responses = s.responses ++ [.write .okay]))

/-- A read of a readable register answers `OKAY` and the register's current value, and changes no
register (R61, R68). -/
def Obligations.ReadReturnsRegisterValue : Prop :=
  ∀ (s : State) (r : Reg) (rest : List Event), s.pending = .serve (.read r.offset 4) :: rest →
    let answer (v : Word) : Host.Outcome State Fault Refusal :=
      .next ⟨s.engine, rest, s.responses ++ [.read .okay v]⟩
    match r with
    | .cmd => step s = .next ⟨s.engine, rest, s.responses ++ [.read .buserr 0]⟩
    | .status => step s = answer s.engine.status
    | .keyw n => step s = answer (s.engine.keyw.get n)
    | .din n => step s = answer (s.engine.din.get n)
    | .dout n => step s = answer (s.engine.dout.get n)
    | .sboxkey n => step s = answer (s.engine.sboxkey.get n)
    | .subkey n => step s = answer (s.engine.subkey.get n)
    | .xsbox n => step s = answer (s.engine.xsbox.get n)

/-- A write to `KEYW[n]` or `DIN[n]` replaces all 32 bits of that register and changes nothing else,
the Schedule and `SVALID` included; writing the same value again changes nothing (R61, R68, R323). -/
def Obligations.HostWritesReplaceOneRegister : Prop :=
  (∀ (s : State) (n : Fin 8) (v : Word) (rest : List Event),
    s.pending = .serve (.write (Reg.keyw n).offset 4 v.toNat) :: rest →
    step s = .next ⟨{ s.engine with keyw := s.engine.keyw.set n v }, rest,
      s.responses ++ [.write .okay]⟩) ∧
  (∀ (s : State) (n : Fin 4) (v : Word) (rest : List Event),
    s.pending = .serve (.write (Reg.din n).offset 4 v.toNat) :: rest →
    step s = .next ⟨{ s.engine with din := s.engine.din.set n v }, rest,
      s.responses ++ [.write .okay]⟩) ∧
  (∀ (s : State) (n : Fin 8) (v : Word), (s.writeKeyw n v).writeKeyw n v = s.writeKeyw n v) ∧
  ∀ (s : State) (n : Fin 4) (v : Word), (s.writeDin n v).writeDin n v = s.writeDin n v

/-- `STATUS` reads `(ERR << 4) | SVALID` with the reserved bits 0, and in the states of the invariant
only the seven listed values appear (R37). -/
def Obligations.StatusReadsErrAndSvalid : Prop :=
  (∀ e : Engine, statusErr e.status = e.err ∧ statusSvalid e.status = e.svalid ∧
    e.status &&& 0xFFFFFF0E = 0) ∧
  ∀ s : State, Inv s → s.engine.status ∈
    ([0x00, 0x01, 0x10, 0x11, 0x20, 0x30, 0x31] : List Word)

/-- The engine's offset of a platform address is the low 13 bits of the address, and an address
outside the window has none (R62). -/
def Obligations.WindowOffsetIsLowAddressBits : Prop :=
  Config.BASE % 0x2000 = 0 ∧
  ∀ addr : Nat,
    (∀ o, offsetOfAddress addr = some o → o.toNat = addr % 0x2000) ∧
    (offsetOfAddress addr = none ↔ (addr < Config.BASE ∨ Config.BASE + 0x2000 ≤ addr))

/-! ### Steps and runs -/

/-- A step runs the decoded command: when the oldest pending event is a 32-bit write to `CMD` whose
word decodes to a command, the step is `exec` of that command on the state without the event, and the
write is answered `OKAY` (R36, R61). -/
def Obligations.StepRunsDecodedCommand : Prop :=
  ∀ (s : State) (w : Word) (i : Instr) (rest : List Event), decode w = .ok i →
    s.pending = .serve (.write 0x0000 4 w.toNat) :: rest →
    step s = onNext (State.respond (.write .okay)) (exec i { s with pending := rest })

/-- A reset event puts the reset state in place of the engine's whole state and has no response; with
nothing pending the engine keeps its state (R310, R81; that a step with nothing pending exists is the
model's, log 2). -/
def Obligations.ResetAndIdleSteps : Prop :=
  (∀ (s : State) (rest : List Event), s.pending = .reset :: rest →
    step s = .next ⟨Engine.reset, rest, s.responses⟩) ∧
  ∀ s : State, s.pending = [] → step s = .next s

/-- No step stops: every state has a next state, and so every run goes on (R82, R297). For a state with
an event pending that is the spec's; with nothing pending, and so in a run longer than its pending list,
the spec has no step (R81), and the next state is the model's choice, the idle step (log 2, log 18). -/
def Obligations.NoRunEverStops : Prop :=
  (∀ s : State, ∃ t, step s = .next t) ∧ ∀ s : State, SafeRun s

/-- The invariant holds after reset (R43, R37, R55). -/
def Obligations.InvariantHoldsAtReset : Prop := Inv State.reset

/-- Every step keeps the invariant: a valid Schedule is the derivation from some accepted key, an
invalid one is all zero, only the codes 0 to 3 appear, and `NoSchedule` only with `SVALID` = 0
(R43, R37). -/
def Obligations.StepKeepsInvariant : Prop :=
  ∀ s t : State, Inv s → step s = .next t → Inv t

/-- Only an accepted `KSCHED`, `ZEROIZE` or a reset writes the Schedule or `SVALID` (R33). -/
def Obligations.OnlyKschedZeroizeResetWriteSchedule : Prop :=
  ∀ (s : State) (ev : Event) (rest : List Event), s.pending = ev :: rest →
    ev.changesSchedule = false →
    ∃ t, step s = .next t ∧ t.engine.schedule = s.engine.schedule ∧
      t.engine.svalid = s.engine.svalid

/-- After an accepted `KSCHED` the Schedule stays the derivation from the key words that `KEYW` held
then, whatever events follow that neither install nor discard a Schedule: writes of `KEYW` among them
(R43, R45, R323). -/
def Obligations.ScheduleIsOfLastAcceptedKey : Prop :=
  ∀ (s : State) (len : Nat) (evs : List Event), validKeyLength len = true →
    (∀ ev ∈ evs, ev.changesSchedule = false) →
    let t := issueAll (.serve (commandWrite (encode (.ksched len)).toNat) :: evs) s
    t.engine.svalid = true ∧ t.engine.schedule = deriveSchedule s.engine.keyw len

/-- The events are served one at a time in their order: running as many steps as there are events
gives the state that issuing them one after another gives, and a run over two lists is the run over
the second from where the first ended (R60, R75). -/
def Obligations.EventsServedInOrder : Prop :=
  (∀ (e : Engine) (evs rest : List Event) (rs : List Response),
    run evs.length ⟨e, evs ++ rest, rs⟩ = .next (issueAll evs ⟨e, rest, rs⟩)) ∧
  ∀ (a b : List Event) (s : State), issueAll (a ++ b) s = issueAll b (issueAll a s)

/-- Two engine states are told apart by the responses to some sequence of transactions exactly when
they differ (R81). -/
def Obligations.ObservationDeterminesState : Prop :=
  ∀ a b : Engine,
    (∀ ts : List Transaction, observed a (ts.map .serve) = observed b (ts.map .serve)) ↔ a = b

/-! ### The host driver (46_host_software.md) -/

/-- `setKey` rejects an absent key or a length outside 0 to 255 without any transaction; for a length
of 0 to 255 the result is `InvalidKey` exactly when it is no key length, and then the Schedule and
`SVALID` stay (R251). That the driver leaves the lengths 0 to 255 to the engine is the model's choice
(log 12), as is that a key shorter than its length is read on as zeros (log 14). -/
def Obligations.SetKeyRejectsBadKeys : Prop :=
  (∀ (key : Option (List Byte)) (length : Int) (s : State),
    (key = none ∨ length < 0 ∨ 255 < length) → setKey key length s = (1, s)) ∧
  ∀ (key : List Byte) (length : Nat) (s : State), length ≤ 255 →
    ((length = 8 ∨ length = 16 ∨ length = 24 ∨ length = 32) →
      (setKey (some key) length s).1 = 0) ∧
    (¬ (length = 8 ∨ length = 16 ∨ length = 24 ∨ length = 32) →
      (setKey (some key) length s).1 = 1 ∧
      (setKey (some key) length s).2.engine.schedule = s.engine.schedule ∧
      (setKey (some key) length s).2.engine.svalid = s.engine.svalid)

/-- `setKey` with an accepted length installs the Schedule of the given key bytes, in `length / 4 + 2`
transactions (R252). -/
def Obligations.SetKeyInstallsKeySchedule : Prop :=
  ∀ (key : List Byte) (s : State), validKeyLength key.length = true →
    let t := (setKey (some key) key.length s).2
    t.engine.svalid = true ∧
    t.engine.schedule = deriveSchedule t.engine.keyw key.length ∧
    (∀ (j : Fin 32) (h : j.val < key.length), keyByte t.engine.keyw j = key[j.val]) ∧
    t.responses.length = s.responses.length + (key.length / 4 + 2)

/-- A block operation of the driver, with a valid Schedule, puts the little-endian words of the block in
`DIN`, byte by byte as the byte view of a block says, and returns the bytes of `DOUT`: the words of the
result are the encryption (`ENC`) or the decryption (`DEC`) of the block's words under the table and the
subkeys, and the engine is otherwise unchanged but for `ERR` = 0; each operation undoes the other. Without
a Schedule it fails with `NoSchedule`, writes `DIN` and `ERR` only, and leaves `DOUT` (R253, R211, R63,
R221). -/
def Obligations.BlockOpRoundTrip : Prop :=
  (∀ (s : State) (b : Vec Byte 16), s.engine.svalid = true →
    let x := blockWords b.toList 0
    let c := encBlock s.engine.xsbox s.engine.subkey x
    let p := decBlock s.engine.xsbox s.engine.subkey x
    (∀ j : Fin 16, blockByte x j = b.get j) ∧
    (∃ out u, blockOp .enc b s = (.ok out, u) ∧ blockWords out.toList 0 = c ∧
      (∀ j : Fin 16, out.get j = blockByte c j) ∧
      u.engine = { s.engine with din := x, dout := c, err := 0 } ∧ u.pending = s.pending ∧
      (blockOp .dec out u).1 = .ok b) ∧
    ∃ out u, blockOp .dec b s = (.ok out, u) ∧ blockWords out.toList 0 = p ∧
      (∀ j : Fin 16, out.get j = blockByte p j) ∧
      u.engine = { s.engine with din := x, dout := p, err := 0 } ∧ u.pending = s.pending ∧
      (blockOp .enc out u).1 = .ok b) ∧
  ∀ (op : BlockOp) (s : State) (b : Vec Byte 16), s.engine.svalid = false →
    ∃ u, blockOp op b s = (.error 2, u) ∧
      u.engine = { s.engine with din := blockWords b.toList 0, err := 2 } ∧
      u.engine.dout = s.engine.dout ∧ u.pending = s.pending

/-- What `encrypt` and `decrypt` return: whole blocks only, as many as the data and the capacity allow,
each the block transform of the block in its place, for `encrypt` of the input filled up with 0xFF; and
an allocation failure writes nothing and issues nothing (R254, R255, R256, R257, R258). -/
def Obligations.WrapperReturnsWholeBlocks : Prop :=
  (∀ (s : State) (input : List Byte) (cap : Nat), s.engine.svalid = true →
    (∃ out u, encrypt true input input.length cap s = (.done out, u) ∧
      out.length = 16 * min ((input.length + 15) / 16) (cap / 16) ∧
      ∀ i < min ((input.length + 15) / 16) (cap / 16),
        blockWords out (16 * i) = encBlock s.engine.xsbox s.engine.subkey
          (blockWords (input ++
            List.replicate ((input.length + 15) / 16 * 16 - input.length) 0xFF) (16 * i))) ∧
    ∃ out u, decrypt input input.length cap s = (.done out, u) ∧
      out.length = 16 * min (input.length / 16) (cap / 16) ∧
      ∀ i < min (input.length / 16) (cap / 16),
        blockWords out (16 * i) =
          decBlock s.engine.xsbox s.engine.subkey (blockWords input (16 * i))) ∧
  ∀ (s : State) (input : List Byte) (cap : Nat), input.length % 16 ≠ 0 →
    encrypt false input input.length cap s = (.allocationFailure, s)

/-- The wrapper issues no command that writes the key or the Schedule (R259). Calls without a Schedule
and calls whose length exceeds the input are covered too, as the model takes them (log 13, log 14). -/
def Obligations.WrapperLeavesScheduleAlone : Prop :=
  ∀ (s : State) (ok : Bool) (input : List Byte) (length cap : Nat),
    ∀ u ∈ [(encrypt ok input length cap s).2, (decrypt input length cap s).2],
      u.engine.keyw = s.engine.keyw ∧ u.engine.schedule = s.engine.schedule ∧
      u.engine.svalid = s.engine.svalid

/-- Padding filler: what `encrypt` writes decrypts back to the input followed by the filler byte 0xFF
up to a multiple of 16, nothing being stripped (R255, R258, R261). -/
def Obligations.DecryptReturnsInputAndFiller : Prop :=
  ∀ (s : State) (input : List Byte) (cap : Nat), s.engine.svalid = true →
    (input.length + 15) / 16 * 16 ≤ cap →
    ∃ c u, encrypt true input input.length cap s = (.done c, u) ∧
      (decrypt c c.length cap u).1 =
        .done (input ++ List.replicate ((input.length + 15) / 16 * 16 - input.length) 0xFF)

/-- The cache: after a call that succeeded, a call with the same length and the same bytes of that length
issues no transaction, and a call with an absent key, another length (a prefix of the key among them) or
other bytes does what setting that key does, as does a first use; a failed call leaves the cache empty
(R263, R264). That a failed call leaves the record at `Cache.empty`, with no key bytes and the length 0,
is the model's choice, the spec giving only `cacheFilled` = false there (log 23). A key shorter than its
length is covered too, as the model takes it (log 14). -/
def Obligations.CacheReusesMatchingKey : Prop :=
  let rekey (key : Option (List Byte)) (length : Int) (d : DriverState) : BitVec 4 × DriverState :=
    let r := setKey key length d.machine
    (r.1, ⟨r.2, if r.1 = 0 then ⟨true, (key.getD []).take length.toNat, length⟩ else Cache.empty⟩)
  (∀ (key : Option (List Byte)) (length : Int) (d d' : DriverState),
    withKey key length d = (0, d') → withKey key length d' = (0, d')) ∧
  (∀ (b₁ : List Byte) (n₁ : Int) (d d' : DriverState), withKey (some b₁) n₁ d = (0, d') →
    (∀ b₂ : List Byte, b₂.take n₁.toNat = b₁.take n₁.toNat →
      withKey (some b₂) n₁ d' = (0, d')) ∧
    (∀ b₂ : List Byte, b₂.take n₁.toNat ≠ b₁.take n₁.toNat →
      withKey (some b₂) n₁ d' = rekey (some b₂) n₁ d') ∧
    (∀ (key : Option (List Byte)) (n₂ : Int), n₂ ≠ n₁ → withKey key n₂ d' = rekey key n₂ d') ∧
    ∀ n₂ : Int, withKey none n₂ d' = rekey none n₂ d') ∧
  (∀ (key : Option (List Byte)) (length : Int) (d : DriverState), d.cache.filled = false →
    withKey key length d = rekey key length d) ∧
  (∀ (key : Option (List Byte)) (length : Int) (d : DriverState),
    d.cache.holds key length = false →
    (withKey key length d).1 = (setKey key length d.machine).1 ∧
    (withKey key length d).2.machine = (setKey key length d.machine).2) ∧
  ∀ (key : Option (List Byte)) (length : Int) (d : DriverState),
    (withKey key length d).1 ≠ 0 → (withKey key length d).2.cache = Cache.empty

/-- Cache correctness, for `cachedEncrypt` and `cachedDecrypt` alike and whatever key the cache holds
already: a cached call gives what setting the key explicitly and then calling the wrapper gives, or the
failure of setting the key; a second call with the key of a first one gives the same and issues the
wrapper's transactions alone (R264, R265). Lengths beyond the input are covered too, as the model takes
them (log 14). That the cache speaks of the engine's Schedule is a statement
of its own. -/
def Obligations.CachedCallEqualsExplicitKey : Prop :=
  (∀ (d : DriverState) (key : Option (List Byte)) (length : Int) (ok : Bool) (input : List Byte)
    (n cap : Nat), CacheInv d →
    let e := setKey key length d.machine
    (cachedEncrypt key length ok input n cap d).1 =
      (if e.1 = 0 then .wrapped (encrypt ok input n cap e.2).1 else .keyFailure e.1) ∧
    (cachedDecrypt key length input n cap d).1 =
      (if e.1 = 0 then .wrapped (decrypt input n cap e.2).1 else .keyFailure e.1)) ∧
  ∀ (d : DriverState) (key : List Byte) (ok ok' : Bool) (in1 in2 : List Byte) (n1 n2 cap1 cap2 : Nat),
    CacheInv d → validKeyLength key.length = true →
    let e := setKey (some key) key.length d.machine
    ∀ first ∈ [(cachedEncrypt (some key) key.length ok in1 n1 cap1 d).2,
        (cachedDecrypt (some key) key.length in1 n1 cap1 d).2],
      cachedEncrypt (some key) key.length ok' in2 n2 cap2 first =
        (.wrapped (encrypt ok' in2 n2 cap2 e.2).1,
          ⟨(encrypt ok' in2 n2 cap2 first.machine).2, first.cache⟩) ∧
      cachedDecrypt (some key) key.length in2 n2 cap2 first =
        (.wrapped (decrypt in2 n2 cap2 e.2).1,
          ⟨(decrypt in2 n2 cap2 first.machine).2, first.cache⟩)

/-- The driver's invariant: a cache that is filled holds the key of the engine's valid Schedule. The
empty cache satisfies it over any machine; a cached call and a reset with the emptying of the cache keep
it (R262, R263, R264, R312). Another host's commands between two calls can break it (R266); the driver's
functions run alone (log 17). A key shorter than its length is covered too, the missing bytes read as 0,
which is the model's choice (log 14), as is what an emptied cache holds beside `cacheFilled` = false
(log 23). -/
def Obligations.CachedCallsKeepCacheInvariant : Prop :=
  (∀ s : State, CacheInv ⟨s, Cache.empty⟩) ∧
  ∀ d : DriverState, CacheInv d →
    (∀ (key : Option (List Byte)) (length : Int), CacheInv (withKey key length d).2) ∧
    (∀ (key : Option (List Byte)) (length : Int) (ok : Bool) (input : List Byte) (n cap : Nat),
      CacheInv (cachedEncrypt key length ok input n cap d).2 ∧
      CacheInv (cachedDecrypt key length input n cap d).2) ∧
    CacheInv (hostReset d)
end

