-- ==== Sys2Proof/Laws/Checksum.lean ====
section
/-!
SUPPORT. The small laws of the checksums: the weighted sum entry by entry, and that the padded message of
SHA-256 is whole blocks.
-/

namespace Sys2Proof.Machine

@[simp] theorem wsumFrom_nil (n : Nat) : wsumFrom n [] = 0 := rfl

@[simp] theorem wsumFrom_cons (n : Nat) (v : Word) (t : List Word) :
    wsumFrom n (v :: t) = BitVec.ofNat 32 n * v + wsumFrom (n + 1) t := rfl

@[simp] theorem length_byteValues : byteValues.length = 256 := by simp [byteValues]

@[simp] theorem length_qTable (s : Fin 2) : (qTable s).length = 256 := by simp [qTable]

@[simp] theorem length_mdsqTable (j : Fin 4) : (mdsqTable j).length = 256 := by simp [mdsqTable]

/-- The padded message is a whole number of blocks of 64 bytes. -/
theorem shaPadded_length_mod (bytes : List Byte) : (shaPadded bytes).length % 64 = 0 := by
  simp [shaPadded]
  omega

/-- The message schedule grows by the words asked for. -/
theorem length_shaSchedule (n : Nat) (w : List Word) : (shaSchedule n w).length = w.length + n := by
  induction n generalizing w with
  | zero => rfl
  | succ n ih => simp only [shaSchedule, ih, List.length_cons]; omega

end Sys2Proof.Machine
end

