-- ==== Sys2Proof/Laws/State.lean ====
section
/-!
SUPPORT. One lemma per field per update of the state: what each named operation leaves in each field.
All are true by unfolding, so no later proof unfolds a record update.
-/

namespace Sys2Proof.Machine

@[simp] theorem State.raise_keyw (c : ErrCode) (s : State) :
    (s.raise c).engine.keyw = s.engine.keyw := rfl
@[simp] theorem State.raise_din (c : ErrCode) (s : State) :
    (s.raise c).engine.din = s.engine.din := rfl
@[simp] theorem State.raise_dout (c : ErrCode) (s : State) :
    (s.raise c).engine.dout = s.engine.dout := rfl
@[simp] theorem State.raise_sboxkey (c : ErrCode) (s : State) :
    (s.raise c).engine.sboxkey = s.engine.sboxkey := rfl
@[simp] theorem State.raise_subkey (c : ErrCode) (s : State) :
    (s.raise c).engine.subkey = s.engine.subkey := rfl
@[simp] theorem State.raise_xsbox (c : ErrCode) (s : State) :
    (s.raise c).engine.xsbox = s.engine.xsbox := rfl
@[simp] theorem State.raise_svalid (c : ErrCode) (s : State) :
    (s.raise c).engine.svalid = s.engine.svalid := rfl
@[simp] theorem State.raise_err (c : ErrCode) (s : State) :
    (s.raise c).engine.err = c.code := rfl
@[simp] theorem State.raise_schedule (c : ErrCode) (s : State) :
    (s.raise c).engine.schedule = s.engine.schedule := rfl
@[simp] theorem State.raise_pending (c : ErrCode) (s : State) :
    (s.raise c).pending = s.pending := rfl
@[simp] theorem State.raise_responses (c : ErrCode) (s : State) :
    (s.raise c).responses = s.responses := rfl

@[simp] theorem State.publish_keyw (d : Schedule) (s : State) :
    (s.publish d).engine.keyw = s.engine.keyw := rfl
@[simp] theorem State.publish_din (d : Schedule) (s : State) :
    (s.publish d).engine.din = s.engine.din := rfl
@[simp] theorem State.publish_dout (d : Schedule) (s : State) :
    (s.publish d).engine.dout = s.engine.dout := rfl
@[simp] theorem State.publish_sboxkey (d : Schedule) (s : State) :
    (s.publish d).engine.sboxkey = d.sboxkey := rfl
@[simp] theorem State.publish_subkey (d : Schedule) (s : State) :
    (s.publish d).engine.subkey = d.subkey := rfl
@[simp] theorem State.publish_xsbox (d : Schedule) (s : State) :
    (s.publish d).engine.xsbox = d.xsbox := rfl
@[simp] theorem State.publish_svalid (d : Schedule) (s : State) :
    (s.publish d).engine.svalid = true := rfl
@[simp] theorem State.publish_err (d : Schedule) (s : State) :
    (s.publish d).engine.err = 0 := rfl
@[simp] theorem State.publish_schedule (d : Schedule) (s : State) :
    (s.publish d).engine.schedule = d := rfl
@[simp] theorem State.publish_pending (d : Schedule) (s : State) :
    (s.publish d).pending = s.pending := rfl
@[simp] theorem State.publish_responses (d : Schedule) (s : State) :
    (s.publish d).responses = s.responses := rfl

@[simp] theorem State.deliver_keyw (b : Vec Word 4) (s : State) :
    (s.deliver b).engine.keyw = s.engine.keyw := rfl
@[simp] theorem State.deliver_din (b : Vec Word 4) (s : State) :
    (s.deliver b).engine.din = s.engine.din := rfl
@[simp] theorem State.deliver_dout (b : Vec Word 4) (s : State) :
    (s.deliver b).engine.dout = b := rfl
@[simp] theorem State.deliver_sboxkey (b : Vec Word 4) (s : State) :
    (s.deliver b).engine.sboxkey = s.engine.sboxkey := rfl
@[simp] theorem State.deliver_subkey (b : Vec Word 4) (s : State) :
    (s.deliver b).engine.subkey = s.engine.subkey := rfl
@[simp] theorem State.deliver_xsbox (b : Vec Word 4) (s : State) :
    (s.deliver b).engine.xsbox = s.engine.xsbox := rfl
@[simp] theorem State.deliver_svalid (b : Vec Word 4) (s : State) :
    (s.deliver b).engine.svalid = s.engine.svalid := rfl
@[simp] theorem State.deliver_err (b : Vec Word 4) (s : State) :
    (s.deliver b).engine.err = 0 := rfl
@[simp] theorem State.deliver_schedule (b : Vec Word 4) (s : State) :
    (s.deliver b).engine.schedule = s.engine.schedule := rfl
@[simp] theorem State.deliver_pending (b : Vec Word 4) (s : State) :
    (s.deliver b).pending = s.pending := rfl
@[simp] theorem State.deliver_responses (b : Vec Word 4) (s : State) :
    (s.deliver b).responses = s.responses := rfl

@[simp] theorem State.writeKeyw_keyw (n : Fin 8) (v : Word) (s : State) :
    (s.writeKeyw n v).engine.keyw = s.engine.keyw.set n v := rfl
@[simp] theorem State.writeKeyw_din (n : Fin 8) (v : Word) (s : State) :
    (s.writeKeyw n v).engine.din = s.engine.din := rfl
@[simp] theorem State.writeKeyw_dout (n : Fin 8) (v : Word) (s : State) :
    (s.writeKeyw n v).engine.dout = s.engine.dout := rfl
@[simp] theorem State.writeKeyw_sboxkey (n : Fin 8) (v : Word) (s : State) :
    (s.writeKeyw n v).engine.sboxkey = s.engine.sboxkey := rfl
@[simp] theorem State.writeKeyw_subkey (n : Fin 8) (v : Word) (s : State) :
    (s.writeKeyw n v).engine.subkey = s.engine.subkey := rfl
@[simp] theorem State.writeKeyw_xsbox (n : Fin 8) (v : Word) (s : State) :
    (s.writeKeyw n v).engine.xsbox = s.engine.xsbox := rfl
@[simp] theorem State.writeKeyw_svalid (n : Fin 8) (v : Word) (s : State) :
    (s.writeKeyw n v).engine.svalid = s.engine.svalid := rfl
@[simp] theorem State.writeKeyw_err (n : Fin 8) (v : Word) (s : State) :
    (s.writeKeyw n v).engine.err = s.engine.err := rfl
@[simp] theorem State.writeKeyw_schedule (n : Fin 8) (v : Word) (s : State) :
    (s.writeKeyw n v).engine.schedule = s.engine.schedule := rfl
@[simp] theorem State.writeKeyw_pending (n : Fin 8) (v : Word) (s : State) :
    (s.writeKeyw n v).pending = s.pending := rfl
@[simp] theorem State.writeKeyw_responses (n : Fin 8) (v : Word) (s : State) :
    (s.writeKeyw n v).responses = s.responses := rfl

@[simp] theorem State.writeDin_keyw (n : Fin 4) (v : Word) (s : State) :
    (s.writeDin n v).engine.keyw = s.engine.keyw := rfl
@[simp] theorem State.writeDin_din (n : Fin 4) (v : Word) (s : State) :
    (s.writeDin n v).engine.din = s.engine.din.set n v := rfl
@[simp] theorem State.writeDin_dout (n : Fin 4) (v : Word) (s : State) :
    (s.writeDin n v).engine.dout = s.engine.dout := rfl
@[simp] theorem State.writeDin_sboxkey (n : Fin 4) (v : Word) (s : State) :
    (s.writeDin n v).engine.sboxkey = s.engine.sboxkey := rfl
@[simp] theorem State.writeDin_subkey (n : Fin 4) (v : Word) (s : State) :
    (s.writeDin n v).engine.subkey = s.engine.subkey := rfl
@[simp] theorem State.writeDin_xsbox (n : Fin 4) (v : Word) (s : State) :
    (s.writeDin n v).engine.xsbox = s.engine.xsbox := rfl
@[simp] theorem State.writeDin_svalid (n : Fin 4) (v : Word) (s : State) :
    (s.writeDin n v).engine.svalid = s.engine.svalid := rfl
@[simp] theorem State.writeDin_err (n : Fin 4) (v : Word) (s : State) :
    (s.writeDin n v).engine.err = s.engine.err := rfl
@[simp] theorem State.writeDin_schedule (n : Fin 4) (v : Word) (s : State) :
    (s.writeDin n v).engine.schedule = s.engine.schedule := rfl
@[simp] theorem State.writeDin_pending (n : Fin 4) (v : Word) (s : State) :
    (s.writeDin n v).pending = s.pending := rfl
@[simp] theorem State.writeDin_responses (n : Fin 4) (v : Word) (s : State) :
    (s.writeDin n v).responses = s.responses := rfl

@[simp] theorem State.clear_engine (s : State) : s.clear.engine = Engine.reset := rfl
@[simp] theorem State.clear_pending (s : State) : s.clear.pending = s.pending := rfl
@[simp] theorem State.clear_responses (s : State) : s.clear.responses = s.responses := rfl

@[simp] theorem State.respond_engine (r : Response) (s : State) :
    (s.respond r).engine = s.engine := rfl
@[simp] theorem State.respond_pending (r : Response) (s : State) :
    (s.respond r).pending = s.pending := rfl
@[simp] theorem State.respond_responses (r : Response) (s : State) :
    (s.respond r).responses = s.responses ++ [r] := rfl

@[simp] theorem Engine.schedule_sboxkey (e : Engine) : e.schedule.sboxkey = e.sboxkey := rfl
@[simp] theorem Engine.schedule_subkey (e : Engine) : e.schedule.subkey = e.subkey := rfl
@[simp] theorem Engine.schedule_xsbox (e : Engine) : e.schedule.xsbox = e.xsbox := rfl

@[simp] theorem Engine.reset_svalid : Engine.reset.svalid = false := rfl
@[simp] theorem Engine.reset_err : Engine.reset.err = 0 := rfl
@[simp] theorem State.reset_engine : State.reset.engine = Engine.reset := rfl
@[simp] theorem State.reset_pending : State.reset.pending = [] := rfl
@[simp] theorem State.reset_responses : State.reset.responses = [] := rfl

@[simp] theorem onNext_next (f : State → State) (s : State) : onNext f (.next s) = .next (f s) := rfl

/-- Two engines with the same registers are the same engine. -/
theorem Engine.eq_of_fields {a b : Engine} (h1 : a.keyw = b.keyw) (h2 : a.din = b.din)
    (h3 : a.dout = b.dout) (h4 : a.schedule = b.schedule) (h5 : a.svalid = b.svalid)
    (h6 : a.err = b.err) : a = b := by
  cases a; cases b
  simp only [Engine.schedule, Schedule.mk.injEq] at h4
  simp_all

end Sys2Proof.Machine
end

