-- ==== Sys2Proof/Laws/Ops.lean ====
section
/-!
SUPPORT. What each shared operation and the step can do, said once: the inversion lemmas that later
proofs cite instead of unfolding the machine.
-/

namespace Sys2Proof.Machine

/-- Everything `KSCHED` can do. -/
theorem execKsched_cases {len : Nat} {s t : State} (h : execKsched len s = .next t) :
    (validKeyLength len = true ∧ t = s.publish (deriveSchedule s.engine.keyw len)) ∨
    (validKeyLength len = false ∧ t = s.raise .invalidKey) := by
  unfold execKsched at h
  split at h <;> rename_i hv
  · exact .inl ⟨hv, by cases h; rfl⟩
  · exact .inr ⟨by simpa using hv, by cases h; rfl⟩

/-- Everything `ENC` can do. -/
theorem execEnc_cases {s t : State} (h : execEnc s = .next t) :
    (s.engine.svalid = true ∧
      t = s.deliver (encBlock s.engine.xsbox s.engine.subkey s.engine.din)) ∨
    (s.engine.svalid = false ∧ t = s.raise .noSchedule) := by
  unfold execEnc at h
  split at h <;> rename_i hv
  · exact .inl ⟨hv, by cases h; rfl⟩
  · exact .inr ⟨by simpa using hv, by cases h; rfl⟩

/-- Everything `DEC` can do. -/
theorem execDec_cases {s t : State} (h : execDec s = .next t) :
    (s.engine.svalid = true ∧
      t = s.deliver (decBlock s.engine.xsbox s.engine.subkey s.engine.din)) ∨
    (s.engine.svalid = false ∧ t = s.raise .noSchedule) := by
  unfold execDec at h
  split at h <;> rename_i hv
  · exact .inl ⟨hv, by cases h; rfl⟩
  · exact .inr ⟨by simpa using hv, by cases h; rfl⟩

/-- Everything a command can do to the state: raise one error, publish a Schedule, deliver a block, or
clear the engine. -/
theorem exec_cases {i : Instr} {s t : State} (h : exec i s = .next t) :
    (∃ c, c ≠ ErrCode.ok ∧ (c = .noSchedule → s.engine.svalid = false) ∧ t = s.raise c) ∨
    (∃ len, i = .ksched len ∧ validKeyLength len = true ∧
      t = s.publish (deriveSchedule s.engine.keyw len)) ∨
    (∃ b, s.engine.svalid = true ∧ (i = .enc ∨ i = .dec) ∧ t = s.deliver b) ∨
    (i = .zeroize ∧ t = s.clear) := by
  cases i with
  | ksched len =>
    rcases execKsched_cases h with ⟨hv, rfl⟩ | ⟨_, rfl⟩
    · exact .inr (.inl ⟨len, rfl, hv, rfl⟩)
    · exact .inl ⟨.invalidKey, by decide, by simp, rfl⟩
  | enc =>
    rcases execEnc_cases h with ⟨hv, rfl⟩ | ⟨hv, rfl⟩
    · exact .inr (.inr (.inl ⟨_, hv, .inl rfl, rfl⟩))
    · exact .inl ⟨.noSchedule, by decide, fun _ => hv, rfl⟩
  | dec =>
    rcases execDec_cases h with ⟨hv, rfl⟩ | ⟨hv, rfl⟩
    · exact .inr (.inr (.inl ⟨_, hv, .inr rfl, rfl⟩))
    · exact .inl ⟨.noSchedule, by decide, fun _ => hv, rfl⟩
  | zeroize => exact .inr (.inr (.inr ⟨rfl, by cases h; rfl⟩))

/-- Everything a command word can do. -/
theorem runCommand_cases {w : Word} {s t : State} (h : runCommand w s = .next t) :
    (∃ i, decode w = .ok i ∧ exec i s = .next t) ∨
    (∃ r, decode w = .error r ∧ t = s.raise .illegalCommand) := by
  unfold runCommand at h
  split at h <;> rename_i r hd
  · exact .inl ⟨r, hd, h⟩
  · exact .inr ⟨r, hd, by cases h; rfl⟩

/-- An outcome that `onNext` turned into a next state was a next state. -/
theorem onNext_cases {f : State → State} {o : Host.Outcome State Fault Refusal} {t : State}
    (h : onNext f o = .next t) : ∃ s, o = .next s ∧ t = f s := by
  cases o with
  | next s => exact ⟨s, rfl, by cases h; rfl⟩
  | fault r => cases h
  | refused r => cases h

/-- Everything the service of a transaction can do. -/
theorem serve_cases {t : Transaction} {s s' : State} (h : serve t s = .next s') :
    (∃ off size, t = .read off size ∧ s' = s.respond (s.engine.readResponse off size)) ∨
    (∃ off size d r, t = .write off size d ∧ writeAt off size = .error r ∧
      s' = s.respond (.write .buserr)) ∨
    (∃ off size d u, t = .write off size d ∧ writeAt off size = .ok .cmd ∧
      runCommand (BitVec.ofNat 32 d) s = .next u ∧ s' = u.respond (.write .okay)) ∨
    (∃ off size d n, t = .write off size d ∧ writeAt off size = .ok (.keyw n) ∧
      s' = (s.writeKeyw n (BitVec.ofNat 32 d)).respond (.write .okay)) ∨
    (∃ off size d n, t = .write off size d ∧ writeAt off size = .ok (.din n) ∧
      s' = (s.writeDin n (BitVec.ofNat 32 d)).respond (.write .okay)) := by
  cases t with
  | read off size => exact .inl ⟨off, size, rfl, by cases h; rfl⟩
  | write off size d =>
    simp only [serve] at h
    split at h <;> rename_i r hw
    · exact .inr (.inl ⟨off, size, d, r, rfl, hw, by cases h; rfl⟩)
    · obtain ⟨u, hu, rfl⟩ := onNext_cases h
      cases r with
      | cmd => exact .inr (.inr (.inl ⟨off, size, d, u, rfl, hw, hu, rfl⟩))
      | keyw n => exact .inr (.inr (.inr (.inl ⟨off, size, d, n, rfl, hw, by cases hu; rfl⟩)))
      | din n => exact .inr (.inr (.inr (.inr ⟨off, size, d, n, rfl, hw, by cases hu; rfl⟩)))

/-- Everything a step can do: stay idle, take a reset, or serve the oldest transaction. -/
theorem step_cases {s s' : State} (h : step s = .next s') :
    (s.pending = [] ∧ s' = s) ∨
    (∃ rest, s.pending = .reset :: rest ∧ s' = ⟨Engine.reset, rest, s.responses⟩) ∨
    (∃ t rest, s.pending = .serve t :: rest ∧
      serve t ⟨s.engine, rest, s.responses⟩ = .next s') := by
  unfold step takeEvent at h
  split at h <;> rename_i hp
  · exact .inl ⟨hp, by cases h; rfl⟩
  · exact .inr (.inl ⟨_, hp, by cases h; rfl⟩)
  · exact .inr (.inr ⟨_, _, hp, h⟩)

end Sys2Proof.Machine
end

