-- ==== Sys2Proof/Laws/Script.lean ====
section
/-!
SUPPORT. What issuing an event does to the machine, and that a script is the issue of its lines.
-/

namespace Sys2Proof.Machine

/-- Issuing a reset clears the engine and leaves what is pending. -/
@[simp] theorem issue_reset (s : State) : issue .reset s = s.clear := rfl

/-- Issuing a transaction serves it. -/
theorem issue_serve {t : Transaction} {s u : State} (h : serve t s = .next u) :
    issue (.serve t) s = u := by
  have h' : step { s with pending := .serve t :: s.pending } = .next u := h
  simp only [issue, h']

/-- Issuing a read adds its response and changes nothing else. -/
@[simp] theorem issue_read (off : Offset) (size : Nat) (s : State) :
    issue (.serve (.read off size)) s = s.respond (s.engine.readResponse off size) :=
  issue_serve rfl

/-- Running no lines changes nothing. -/
@[simp] theorem runLines_nil (s : State) : runLines [] s = s := rfl

/-- Running a line and then others. -/
@[simp] theorem runLines_cons (l : ScriptLine) (ls : List ScriptLine) (s : State) :
    runLines (l :: ls) s = runLines ls (issue l.event s) := rfl

/-- Running one script and then another. -/
theorem runLines_append (a b : List ScriptLine) (s : State) :
    runLines (a ++ b) s = runLines b (runLines a s) := by
  simp [runLines, List.foldl_append]

/-- A well-formed script line stands for a well-formed event. -/
theorem ScriptLine.event_wf {l : ScriptLine} (h : l.wf = true) : l.event.wf = true := by
  cases l with
  | wr r v => simpa [ScriptLine.event, Event.wf, Transaction.wf] using v.isLt
  | ksched len =>
    have hl : len < 2 ^ 8 := by simpa [ScriptLine.wf] using h
    have hw : 0x00000001 ||| (len <<< 8) < 2 ^ 32 :=
      Nat.or_lt_two_pow (by decide) (by rw [Nat.shiftLeft_eq]; omega)
    simpa [ScriptLine.event, commandWrite, Event.wf, Transaction.wf] using hw
  | _ => rfl

@[simp] theorem ScriptLine.wf_wr (r : Reg) (v : Word) : (ScriptLine.wr r v).wf = true := rfl
@[simp] theorem ScriptLine.wf_rd (r : Reg) : (ScriptLine.rd r).wf = true := rfl
@[simp] theorem ScriptLine.wf_enc : ScriptLine.enc.wf = true := rfl
@[simp] theorem ScriptLine.wf_dec : ScriptLine.dec.wf = true := rfl

theorem ScriptLine.wf_ksched_iff {len : Nat} : (ScriptLine.ksched len).wf = true ↔ len < 256 :=
  decide_eq_true_iff

/-- `LDKEY` expands to well-formed lines, whatever its bytes. -/
theorem loadKey_wf (bytes : List Byte) : ∀ l ∈ loadKey bytes, l.wf = true := by
  rintro l hl
  obtain ⟨m, _, rfl⟩ := List.mem_map.mp hl
  rfl

/-- `LDBLK` expands to well-formed lines. -/
theorem loadBlock_wf (block : Vec Byte 16) : ∀ l ∈ loadBlock block, l.wf = true := by
  rintro l hl
  obtain ⟨m, _, rfl⟩ := List.mem_map.mp hl
  rfl

/-- `RDBLK` expands to well-formed lines. -/
theorem readBlock_wf : ∀ l ∈ readBlock, l.wf = true := by
  rintro l hl
  obtain ⟨m, _, rfl⟩ := List.mem_map.mp hl
  rfl

/-- A well-formed pseudo-instruction expands to well-formed lines. -/
theorem PseudoLine.expand_wf {p : PseudoLine} (h : p.wf = true) :
    ∀ l ∈ p.expand, l.wf = true := by
  cases p with
  | ldkey bytes => exact loadKey_wf bytes
  | setkey bytes =>
    have hn : bytes.length ≤ 32 := decide_eq_true_iff.mp h
    simp only [PseudoLine.expand, List.forall_mem_append, List.forall_mem_singleton,
      ScriptLine.wf_ksched_iff]
    exact ⟨loadKey_wf bytes, by omega⟩
  | ldblk block => exact loadBlock_wf block
  | rdblk => exact readBlock_wf
  | encblk block | decblk block =>
    simp only [PseudoLine.expand, List.forall_mem_append, List.forall_mem_cons]
    exact ⟨⟨loadBlock_wf block, rfl, rfl, by simp⟩, readBlock_wf⟩

end Sys2Proof.Machine
end

