-- ==== Sys2Proof/Laws/Vec.lean ====
section
/-!
SUPPORT. The laws of arrays: read after write, reading a built array, extensionality.
-/

namespace Sys2Proof

variable {α : Type} {n : Nat}

/-- Arrays with the same entries are equal. -/
theorem Vec.ext_get {a b : Vec α n} (h : ∀ i, a.get i = b.get i) : a = b := by
  obtain ⟨la, ha⟩ := a
  obtain ⟨lb, hb⟩ := b
  congr
  refine List.ext_getElem (ha.trans hb.symm) fun i h1 h2 => ?_
  simpa [Vec.get] using h ⟨i, ha ▸ h1⟩

@[simp] theorem Vec.get_tabulate (f : Fin n → α) (i : Fin n) : (Vec.tabulate f).get i = f i := by
  simp [Vec.get, Vec.tabulate]

@[simp] theorem Vec.get_replicate (v : α) (i : Fin n) : (Vec.replicate n v).get i = v := by
  simp [Vec.get, Vec.replicate]

/-- Reading the entry just written gives the value written. -/
@[simp] theorem Vec.get_set_same (a : Vec α n) (i : Fin n) (v : α) : (a.set i v).get i = v := by
  simp [Vec.get, Vec.set]

/-- A write leaves every other entry alone. -/
theorem Vec.get_set_ne (a : Vec α n) {i j : Fin n} (v : α) (h : i ≠ j) :
    (a.set i v).get j = a.get j := by
  have : i.val ≠ j.val := fun e => h (Fin.ext e)
  simp [Vec.get, Vec.set, List.getElem_set_ne this]

/-- Writing what is there changes nothing. -/
@[simp] theorem Vec.set_get_self (a : Vec α n) (i : Fin n) : a.set i (a.get i) = a := by
  apply Vec.ext_get
  intro j
  by_cases h : i = j
  · subst h; simp
  · exact Vec.get_set_ne a _ h

/-- The second of two writes to one entry is the one that counts. -/
@[simp] theorem Vec.set_set_same (a : Vec α n) (i : Fin n) (v w : α) :
    (a.set i v).set i w = a.set i w := by
  simp [Vec.set]

/-- The list of an array, entry by entry. -/
theorem Vec.toList_getD (a : Vec α n) (d : α) (i : Fin n) : a.toList.getD i.val d = a.get i := by
  have h : i.val < a.toList.length := by rw [a.size_eq]; exact i.isLt
  rw [List.getD_eq_getElem _ _ h]
  simp [Vec.get]

end Sys2Proof
end

