-- ==== Sys2Proof/Laws/Window.lean ====
section
/-!
SUPPORT. What locating, reading and writing in the register window can answer, said once.
-/

namespace Sys2Proof.Machine

/-- Everything `locate` can answer with a register. -/
theorem locate_ok_iff {off : Offset} {size : Nat} {r : Reg} :
    locate off size = .ok r ↔
      size = 4 ∧ off.toNat % 4 = 0 ∧ regAtWord (off.toNat / 4) = some r := by
  unfold locate
  split
  · simp_all
  · split
    · simp_all
    · split <;> simp_all

/-- A read finds a value exactly when the register is located and readable. -/
theorem readAt_ok_iff {e : Engine} {off : Offset} {size : Nat} {v : Word} :
    e.readAt off size = .ok v ↔ ∃ r, locate off size = .ok r ∧ e.readReg r = some v := by
  unfold Engine.readAt
  split <;> rename_i r hl
  · simp [hl]
  · split <;> simp_all

/-- A write finds a target exactly when the register is located and writable. -/
theorem writeAt_ok_iff {off : Offset} {size : Nat} {t : WriteTarget} :
    writeAt off size = .ok t ↔ ∃ r, locate off size = .ok r ∧ r.writeTarget = some t := by
  unfold writeAt
  split <;> rename_i r hl
  · simp [hl]
  · split <;> simp_all

/-- The response to a read, in its two cases. -/
theorem readResponse_cases (e : Engine) (off : Offset) (size : Nat) :
    (∃ v, e.readAt off size = .ok v ∧ e.readResponse off size = .read .okay v) ∨
    (∃ r, e.readAt off size = .error r ∧ e.readResponse off size = .read .buserr 0) := by
  unfold Engine.readResponse
  split <;> rename_i r hr
  · exact .inl ⟨r, hr, rfl⟩
  · exact .inr ⟨r, hr, rfl⟩

end Sys2Proof.Machine
end

