-- ==== Sys2Proof/Laws/Driver.lean ====
section
/-!
SUPPORT. What the driver's accesses do to the machine, said once each, and what its cache can do: when it
holds a key, and the outcomes of `withKey`.
-/

namespace Sys2Proof.Machine

/-- Word `m` of the block at an offset. -/
@[simp] theorem blockWords_get (bytes : List Byte) (o : Nat) (m : Fin 4) :
    (blockWords bytes o).get m = le32 bytes (o + 4 * m.val) := by
  simp [blockWords]

/-- Issuing a write of `DIN[m]` replaces that word and is answered `OKAY`. -/
theorem issue_writeDin (m : Fin 4) (v : Word) (s : State) :
    issue (ScriptLine.wr (.din m) v).event s = (s.writeDin m v).respond (.write .okay) := by
  apply issue_serve
  have h : writeAt (Reg.offset (.din m)) 4 = .ok (.din m) := by revert m; decide
  simp [serve, h, applyWrite, onNext]

/-- Issuing a read of a readable register is answered with its value. -/
theorem issue_readReg {r : Reg} {v : Word} {s : State} (h : s.engine.readAt r.offset 4 = .ok v) :
    issue (ScriptLine.rd r).event s = s.respond (.read .okay v) := by
  simp [ScriptLine.event, Engine.readResponse, h]

/-- `LDBLK` puts the words of the block in `DIN`, in four writes answered `OKAY`. -/
theorem runLines_loadBlock (b : Vec Byte 16) (s : State) :
    runLines (loadBlock b) s = { s with
      engine := { s.engine with din := blockWords b.toList 0 },
      responses := s.responses ++ List.replicate 4 (.write .okay) } := by
  have h : (((s.engine.din.set 0 (le32 b.toList 0)).set 1 (le32 b.toList 4)).set 2
      (le32 b.toList 8)).set 3 (le32 b.toList 12) = blockWords b.toList 0 := by
    obtain ⟨l, hl⟩ := s.engine.din
    match l, hl with
    | [_, _, _, _], _ => rfl
  simp only [loadBlock, blockRegs, List.map, runLines_cons, runLines_nil, issue_writeDin,
    State.respond, State.writeDin, List.append_assoc]
  rw [← h]
  rfl

/-- `RD STATUS` gives the error code of the latest command. -/
theorem readErr_eq (s : State) :
    readErr s = (s.engine.err, s.respond (.read .okay s.engine.status)) := by
  have h : issue (ScriptLine.rd .status).event s = s.respond (.read .okay s.engine.status) :=
    issue_readReg (readAt_ok_iff.mpr ⟨.status, by decide, rfl⟩)
  have he : statusErr s.engine.status = s.engine.err := by
    unfold Engine.status statusErr
    cases s.engine.svalid <;> generalize s.engine.err = e <;> revert e <;> decide +kernel
  simp [readErr, h, lastRead, State.respond, he]

/-- `RD DOUT[m]` gives that word. -/
theorem readDout_eq (m : Fin 4) (s : State) :
    readDout m s = (s.engine.dout.get m, s.respond (.read .okay (s.engine.dout.get m))) := by
  have h : issue (ScriptLine.rd (.dout m)).event s =
      s.respond (.read .okay (s.engine.dout.get m)) :=
    issue_readReg (readAt_ok_iff.mpr ⟨.dout m, by revert m; decide, rfl⟩)
  simp [readDout, h, lastRead, State.respond]

/-- The empty cache holds no key. -/
@[simp] theorem Cache.empty_holds (key : Option (List Byte)) (length : Int) :
    Cache.empty.holds key length = false := by
  cases key <;> rfl

/-- No cache holds an absent key. -/
@[simp] theorem Cache.holds_none (c : Cache) (length : Int) : c.holds none length = false := rfl

/-- A cache holds a key exactly when it is filled with its length and its bytes of that length. -/
theorem Cache.holds_some_iff {c : Cache} {bytes : List Byte} {length : Int} :
    c.holds (some bytes) length = true ↔
      c.filled = true ∧ c.length = length ∧ c.key = bytes.take length.toNat := by
  simp [Cache.holds, and_assoc]

/-- Everything `withKey` can do: reuse without a transaction, or set the key and fill the cache, or fail
to set it and leave the cache empty. -/
theorem withKey_cases (key : Option (List Byte)) (length : Int) (d : DriverState) :
    (d.cache.holds key length = true ∧ withKey key length d = (0, d)) ∨
    (d.cache.holds key length = false ∧ (setKey key length d.machine).1 = 0 ∧
      withKey key length d = (0, ⟨(setKey key length d.machine).2,
        ⟨true, (key.getD []).take length.toNat, length⟩⟩)) ∨
    (d.cache.holds key length = false ∧ (setKey key length d.machine).1 ≠ 0 ∧
      withKey key length d =
        ((setKey key length d.machine).1, ⟨(setKey key length d.machine).2, Cache.empty⟩)) := by
  unfold withKey
  split <;> rename_i hc
  · exact .inl ⟨hc, rfl⟩
  · have hc : d.cache.holds key length = false := by simpa using hc
    dsimp only
    split <;> rename_i hr
    · have hr : (setKey key length d.machine).1 = 0 := hr
      exact .inr (.inl ⟨hc, hr, by rw [hr]⟩)
    · exact .inr (.inr ⟨hc, hr, rfl⟩)

/-- A key that is absent cannot be set. -/
@[simp] theorem setKey_none (length : Int) (s : State) : setKey none length s = (1, s) := rfl

/-- After `withKey` succeeded the cache holds the key. -/
theorem withKey_ok_holds {key : Option (List Byte)} {length : Int} {d d' : DriverState}
    (h : withKey key length d = (0, d')) : d'.cache.holds key length = true := by
  rcases withKey_cases key length d with ⟨hc, hw⟩ | ⟨_, hs, hw⟩ | ⟨_, hs, hw⟩ <;> rw [hw] at h
  · cases h; exact hc
  · cases key with
    | none => simp at hs
    | some bytes => cases h; exact Cache.holds_some_iff.mpr ⟨rfl, rfl, rfl⟩
  · exact absurd (congrArg Prod.fst h) hs

@[simp] theorem hostReset_machine (d : DriverState) : (hostReset d).machine = issue .reset d.machine :=
  rfl

@[simp] theorem hostReset_cache (d : DriverState) : (hostReset d).cache = Cache.empty := rfl

end Sys2Proof.Machine
end

