-- ==== Sys2Proof/Laws/PerInstr.lean ====
section
/-!
SUPPORT. Statements about every command as syntax, one lemma per constructor.
-/

namespace Sys2Proof.Laws

/-- The encoding of a well-formed command is selected by exactly the opcode-map row that bears the
command's mnemonic (30_encoding.md R95). -/
def EncodingSelectsRow.Statement (i : Instr) : Prop :=
  i.wf = true → ∀ r ∈ opcodeMap, (r.selects (encode i) = true ↔ r.mnemonic = i.mnemonic)

theorem EncodingSelectsRow.ksched (len : Nat) : EncodingSelectsRow.Statement (.ksched len) := by
  intro hw
  have hlen : len < 256 := by simpa [Instr.wf] using hw
  have all : ∀ n : Fin 256, opcodeMap.map (·.selects (encode (.ksched n.val))) =
      [true, false, false, false] := by decide +kernel
  have h := all ⟨len, hlen⟩
  simp only [opcodeMap, List.map_cons, List.map_nil, List.cons.injEq, and_true] at h
  simp [opcodeMap, Instr.mnemonic]
  exact h

theorem EncodingSelectsRow.enc : EncodingSelectsRow.Statement .enc := fun _ => by decide

theorem EncodingSelectsRow.dec : EncodingSelectsRow.Statement .dec := fun _ => by decide

theorem EncodingSelectsRow.zeroize : EncodingSelectsRow.Statement .zeroize := fun _ => by decide

end Sys2Proof.Laws
end

