-- ==== Sys2Proof/Tests/Slice0.lean ====
section
/-!
SUPPORT. The model's own tests. Expected values are the spec's worked examples and tables, or hand
calculation from its rules, as each comment says; and for every statement with hypotheses one theorem
that meets them.

The theorems of this file are elaborated one after another (`Elab.async` off): a few of the kernel
evaluations take seconds, and theorems that wait behind one would each hold a thread with a stack of its
own.
-/

set_option Elab.async false

open Sys2Proof Sys2Proof.Machine

/-! ### Well-formedness: one ill-formed term for each check -/

/-- 30 R94: `LEN` is a number 0 to 255. -/
theorem test_wf_instr_refuses : (Instr.ksched 256).wf = false ∧ (Instr.ksched 255).wf = true := by
  decide

/-- 20 R60: the data of a write has `8 * size` bits. -/
theorem test_wf_transaction_refuses :
    (Transaction.write 0x0010 1 256).wf = false ∧ (Transaction.write 0x0010 1 255).wf = true := by
  decide

/-- An event with an ill-formed transaction is ill formed. -/
theorem test_wf_event_refuses :
    (Event.serve (.write 0x0010 4 0x100000000)).wf = false ∧ Event.reset.wf = true := by decide

/-- 30 R103: `<len>` = 0 to 255 in a script line. -/
theorem test_wf_scriptLine_refuses :
    (ScriptLine.ksched 256).wf = false ∧ (ScriptLine.ksched 255).wf = true := by decide

/-- 30 R104: 0 to 32 bytes in `LDKEY` and `SETKEY`. -/
theorem test_wf_pseudoLine_refuses :
    (PseudoLine.ldkey (List.replicate 33 0)).wf = false ∧
    (PseudoLine.setkey (List.replicate 33 0)).wf = false ∧
    (PseudoLine.setkey (List.replicate 32 0)).wf = true := by decide

/-! ### Decoding: words written out by hand from the bit fields of 30 R90, R95 -/

/-- `RSV` = 0, `LEN` = 16, `OP` = 0x01. -/
theorem test_decode_ksched : decodeTableWord 32 0b00000000000000000001000000000001 =
    some (.ksched 16) := by decide

/-- `RSV` = 0, `LEN` = 0, `OP` = 0x02. -/
theorem test_decode_enc : decodeTableWord 32 0b00000000000000000000000000000010 = some .enc := by
  decide

/-- `RSV` = 0, `LEN` = 0, `OP` = 0x03. -/
theorem test_decode_dec : decodeTableWord 32 0b00000000000000000000000000000011 = some .dec := by
  decide

/-- `RSV` = 0, `LEN` = 0, `OP` = 0x04. -/
theorem test_decode_zeroize :
    decodeTableWord 32 0b00000000000000000000000000000100 = some .zeroize := by decide

/-- 30 R100: the rule's examples of illegal words, with the case each falls under. -/
theorem test_decode_illegal :
    [0x00000000, 0x00000005, 0x000000FF, 0x00010001, 0x00001002, 0xFFFFFFFF].map decode =
      [.error .opUnassigned, .error .opUnassigned, .error .opUnassigned, .error .rsvNonzero,
        .error .lenNonzero, .error .rsvNonzero] := by decide

/-! ### Arithmetic: the examples of 40 R121 to R130 -/

/-- The examples of R121 and R122. -/
theorem test_words : lane 0 0x12345678 = 0x78 ∧ lane 3 0x12345678 = 0x12 ∧
    le32 [0x01, 0x23, 0x45, 0x67] 0 = 0x67452301 ∧
    (0xFFFFFFFF : Word) + 0x00000002 = 0x00000001 ∧ 2 * (0x80000000 : Word) = 0 ∧
    2 * (0x80000001 : Word) = 0x00000002 := by decide +kernel

/-- The examples of R125 and R126. -/
theorem test_lfsr : [0x01, 0x02, 0x03, 0x80, 0xFF].map lfsr1 = [0xB4, 0x01, 0xB5, 0x40, 0xCB] ∧
    [0x01, 0x02, 0x03, 0x04, 0x80, 0xFF].map lfsr2 = [0x5A, 0xB4, 0xEE, 0x01, 0x20, 0xD1] := by
  decide +kernel

/-- The examples of R127. -/
theorem test_multipliers :
    [0x01, 0x02, 0x80, 0xA9, 0xFF].map mulX = [0x5B, 0xB6, 0xA0, 0xD9, 0x2E] ∧
    [0x01, 0x02, 0x80, 0xA9, 0xFF].map mulY = [0xEF, 0xB7, 0xE0, 0x39, 0xE5] := by decide +kernel

/-- The examples of R128. -/
theorem test_rsRemainder :
    [0x00000001, 0x01000000, 0x80000000, 0x12345678, 0xFFFFFFFF].map rsRemainder =
      [0x00000100, 0xA402A401, 0x0D4D0D80, 0x19725512, 0x954C95FF] := by decide +kernel

/-- Examples of R129: the worked one, and the first and the last column of the matrix (R130). -/
theorem test_rsEncode : rsEncode 0x67452301 0xEFCDAB89 = 0xB89FF6F2 ∧
    rsEncode 1 0 = 0xA402A401 ∧ rsEncode 0 0x1000000 = 0x0319E59E := by decide +kernel

/-! ### Tables and F32 -/

/-- SHA-256 itself, on the three bytes 61 62 63 of its publication's first example (log 22). -/
theorem test_sha256 : sha256 [0x61, 0x62, 0x63] =
    0xba7816bf8f01cfea414140de5dae2223b00361a396177a9cb410ff61f20015ad := by decide +kernel

/-- The checksums of `Q[0]` and `Q[1]` in the table of 41 R150: `xor`, `sum`, `wsum`, `sha256`. -/
theorem test_q_checksums :
    ([0, 1] : List (Fin 2)).map (fun s => (xorSum ((qTable s).map zext),
      plainSum ((qTable s).map zext), wsum ((qTable s).map zext), sha256 (qTable s))) =
    [(0x00, 32640, 0x003DD69A, 0x0e645a5e8af7a03377460f11fb62dccbe409d403259af4be5fdfa22641938fd9),
      (0x00, 32640, 0x003DD8D8,
        0xfb231e7fd8f1f24b5b212db76efe657ca1e2e660429021755ed6ace57fb49a01)] := by decide +kernel

/-- `xor`, `sum` and `wsum` of `MDSQ[0]` to `MDSQ[3]` in the table of 41 R150. -/
theorem test_mdsq_checksums :
    ([0, 1, 2, 3] : List (Fin 4)).map
      (fun j => (xorSum (mdsqTable j), plainSum (mdsqTable j), wsum (mdsqTable j))) =
    [(0, 0xFFFFFF80, 0x8617FED8), (0, 0xFFFFFF80, 0xDF0A4750), (0, 0xFFFFFF80, 0xADC9DA26),
      (0, 0xFFFFFF80, 0x07689DD2)] := by decide +kernel

/-- `sha256` of `MDSQ[0]` in the table of 41 R150; `Obligations.TableChecksums` states all six. -/
theorem test_mdsq_sha256 : sha256 ((mdsqTable 0).flatMap wordBytes) =
    0xca1a4e7d1fd5fdfbab163587b1bc1a608f578a475571bceb2f05d2cbe74626ad := by decide +kernel

/-- Traces of 43 R198, one for each class of key length. -/
theorem test_F32_traces :
    F32 1 0x03020100 ⟨[0x67452301, 0, 0, 0], rfl⟩ = 0xB56B177A ∧
    F32 2 0x01010101 ⟨[0, 0, 0, 0], rfl⟩ = 0x53E3C3AA ∧
    F32 3 0x12345678 ⟨[0x67452301, 0x98BADCFE, 0x33221100, 0], rfl⟩ = 0x53F0F983 ∧
    F32 0 0x12345678 ⟨[0x67452301, 0x98BADCFE, 0x33221100, 0xBBAA9988], rfl⟩ = 0x8114215C := by
  decide +kernel

/-! ### The commands -/

/-- A state after reset but for the events pending. -/
def Tests.pending (evs : List Event) : State := { State.reset with pending := evs }

/-- The next state of an outcome, and the reset state where there is none. -/
def Tests.next : Host.Outcome State Fault Refusal → State
  | .next s => s
  | .fault _ => State.reset
  | .refused _ => State.reset

/-- The Schedule of the all-zero 16-byte key. -/
def Tests.z128 : Schedule := deriveSchedule (Vec.replicate 8 0) 16

/-- A state that holds the Schedule of the all-zero 16-byte key, the input block `b`, and `evs`
pending. -/
def Tests.keyed (b : Vec Word 4) (evs : List Event) : State :=
  ⟨{ (State.reset.publish Tests.z128).engine with din := b }, evs, []⟩

/-- A state whose Schedule is valid but all zero, except subkeys 0 to 7: a table that no key makes, on
which a block transform can be followed by hand. -/
def Tests.handMade (b : Vec Word 4) : State :=
  ⟨{ Engine.reset with
      din := b, svalid := true, err := 3,
      subkey := ⟨[0x01, 0x02, 0x03, 0x04, 0x10, 0x20, 0x30, 0x40] ++ List.replicate 32 0, rfl⟩ },
    [], []⟩

/-- The first step after reset on the word 0x00001001 (42 R160, R170, 10 R37): subkeys, an entry of
the table, `STATUS`, and the answer to the write. -/
theorem test_ksched_z128 :
    let t := Tests.next (step (State.reset.withFetchWord 32 0x00001001))
    t.engine.subkey.get 0 = 0x52C54DDE ∧ t.engine.subkey.get 1 = 0x11F0626D ∧
    t.engine.xsbox.get 0 = 0x9C9C71B3 ∧ t.engine.xsbox.get 1023 = 0x91862E91 ∧
    t.engine.status = 0x01 ∧ t.responses = [.write .okay] := by decide +kernel

/-- Zero keys of the four lengths are four keys: `SUBKEY[39]` of 42 R171. -/
theorem test_ksched_lengths :
    [8, 16, 24, 32].map (fun len => (deriveSchedule (Vec.replicate 8 0) len).subkey.get 39) =
      [0xC1658906, 0x696EA672, 0x56D8CA51, 0xB9F00BC9] := by decide +kernel

/-- `ENC` of the zero block under the all-zero 16-byte key (44 R225). -/
theorem test_enc_z128 : (Tests.next (exec .enc (Tests.keyed (Vec.replicate 4 0) []))).engine.dout =
    ⟨[0x5C9F589F, 0x322C12F6, 0x2FECBFB6, 0x5AC3E82A], rfl⟩ := by decide +kernel

/-- `ENC` by hand from 44 R216: with a zero table and zero round subkeys each round only rotates, so
the block is whitened, its first two words come out third and fourth, and every word has made eight
one-bit rotates. -/
theorem test_enc_byHand :
    (Tests.next (exec .enc (Tests.handMade
      ⟨[0x00000001, 0x00000002, 0x00000103, 0x11000004], rfl⟩))).engine.dout =
      ⟨[0x00000011, 0x00000031, 0x00000030, 0x00000040], rfl⟩ := by decide +kernel

/-- `DEC` by hand from 44 R220, on the block of the test before. -/
theorem test_dec_byHand :
    let t := Tests.next (exec .dec (Tests.handMade
      ⟨[0x00000011, 0x00000031, 0x00000030, 0x00000040], rfl⟩))
    t.engine.dout = ⟨[0x00000001, 0x00000002, 0x00000103, 0x11000004], rfl⟩ ∧
    t.engine.err = 0 := by decide +kernel

/-- The first step of 44 R226: round 15 undone with subkeys 38 and 39. -/
theorem test_decRound_z128 :
    decRound Tests.z128.xsbox 0xEB27628F 0x2C51191D 0xC1708BA9 0x9522A3CE
      (Tests.z128.subkey.get 38) (Tests.z128.subkey.get 39) = (0xB0681C46, 0x606D0273) := by
  decide +kernel

/-- `ZEROIZE` on a keyed engine (45 R240). -/
theorem test_zeroize : Tests.next (exec .zeroize (Tests.keyed (Vec.replicate 4 7) [])) =
    State.reset := by decide +kernel

/-- Every error, from the state the rule names: 42 R161, 44 R210, 30 R100. -/
theorem test_errors :
    [0x00000701, 0x00000002, 0x00000003, 0x00000005].map
      (fun w => (Tests.next (step (State.reset.withFetchWord 32 w))).engine.status) =
      [0x10, 0x20, 0x20, 0x30] := by decide +kernel

/-! ### The window and the host's scripts -/

/-- 20 R63: the key bytes 01 23 45 67 in order are the word 0x67452301 of `KEYW[0]`; 10 R22. -/
theorem test_write_keyw :
    let t := Tests.next (step (Tests.pending [.serve (.write 0x0010 4 0x67452301)]))
    t.engine.keyw.get 0 = 0x67452301 ∧ keyByte t.engine.keyw 0 = 0x01 ∧
    keyByte t.engine.keyw 3 = 0x67 := by decide +kernel

/-- The example of 30 R104. -/
theorem test_ldkey : PseudoLine.expand (.ldkey [0x01, 0x23, 0x45, 0x67, 0x89, 0xAB, 0xCD, 0xEF]) =
    [.wr (.keyw 0) 0x67452301, .wr (.keyw 1) 0xEFCDAB89] := by decide +kernel

/-- A script line of a command writes the command's encoding (30 R96, R103). -/
theorem test_script_commands :
    [ScriptLine.ksched 24, .enc, .dec, .zeroize].map ScriptLine.event =
      [Instr.ksched 24, .enc, .dec, .zeroize].map
        (fun i => Event.serve (commandWrite (encode i).toNat)) := by decide +kernel

/-- The examples of 46 R254, and the filled buffer of R261. -/
theorem test_padding : [0, 1, 10, 16, 17, 40].map alignedLength = [0, 16, 16, 16, 32, 48] ∧
    padded [0x00, 0x11, 0x22, 0x33, 0x44, 0x55, 0x66, 0x77, 0x88, 0x99] 10 =
      [0x00, 0x11, 0x22, 0x33, 0x44, 0x55, 0x66, 0x77, 0x88, 0x99, 0xFF, 0xFF, 0xFF, 0xFF, 0xFF,
        0xFF] := by decide +kernel

/-! ### Witnesses: states and operands that meet the hypotheses of each statement -/

/-- `DecodeInvertsEncode`, at both ends of `LEN`. -/
theorem test_witness_DecodeInvertsEncode :
    (Instr.ksched 0).wf = true ∧ (Instr.ksched 255).wf = true ∧ Instr.zeroize.wf = true := by decide

/-- `EncodeInvertsDecode` and the second half of `DecodeFollowsOpcodeMap`. -/
theorem test_witness_EncodeInvertsDecode :
    decode 0x0000FF01 = .ok (.ksched 255) ∧ decode 0x00000004 = .ok .zeroize := by decide

/-- The decoder's two sides meet the map's two sides. -/
theorem test_witness_DecodeFollowsOpcodeMap :
    (opcodeMap.map fun r => r.selects 0x0000FF01) = [true, false, false, false] ∧
    (opcodeMap.map fun r => r.selects 0x00000005) = [false, false, false, false] := by decide

/-- `IllegalWordWritesOnlyErr`: each reason, at boundary words, pending as the write of `CMD`. -/
theorem test_witness_IllegalWordWritesOnlyErr :
    decode 0x80000001 = .error .rsvNonzero ∧ decode 0x00000100 = .error .opUnassigned ∧
    decode 0x00000105 = .error .opUnassigned ∧ decode 0x00000102 = .error .lenNonzero ∧
    decode 0x0000FF04 = .error .lenNonzero ∧
    (Tests.pending [.serve (.write 0x0000 4 (0x00000105 : Word).toNat)]).pending =
      .serve (.write 0x0000 4 (0x00000105 : Word).toNat) :: [] := by decide +kernel

/-- `RsRemainderByLanes`, last clause: a word with a zero top byte. -/
theorem test_witness_RsRemainderByLanes : lane 3 0x00FFFFFF = 0 := by decide

/-- `F32IgnoresUnusedKeyWords`: different key words that agree where the class reads them, and a length
that leaves a slot unused. -/
theorem test_witness_F32IgnoresUnusedKeyWords :
    let k : Vec Word 4 := ⟨[1, 2, 3, 4], rfl⟩
    let k1 : Vec Word 4 := ⟨[1, 0, 0, 0], rfl⟩
    let k3 : Vec Word 4 := ⟨[1, 2, 3, 0], rfl⟩
    k.get 0 = k1.get 0 ∧ k.get 1 = k3.get 1 ∧ k.get 2 = k3.get 2 ∧ k ≠ k1 ∧ k ≠ k3 ∧
    k64Cnt 24 ≤ (3 : Fin 4).val := by decide +kernel

/-- `KschedPublishesSchedule` at every accepted length, on a full key and an older Schedule. -/
theorem test_witness_KschedPublishesSchedule :
    ∀ len ∈ [8, 16, 24, 32], len = 8 ∨ len = 16 ∨ len = 24 ∨ len = 32 := by decide

/-- `KschedRejectsBadLength` next to the accepted lengths and at the ends of `LEN`. -/
theorem test_witness_KschedRejectsBadLength :
    ∀ len ∈ [0, 1, 7, 9, 15, 17, 23, 25, 31, 33, 40, 255],
      ¬ (len = 8 ∨ len = 16 ∨ len = 24 ∨ len = 32) := by decide

/-- `KeySplitsIntoEvenAndOddWords` and `SboxKeyWordsReversed`: used and unused slots at their
boundary, 24 bytes. -/
theorem test_witness_KeySplitsIntoEvenAndOddWords :
    (2 : Fin 4).val < 24 / 8 ∧ 24 / 8 ≤ (3 : Fin 4).val ∧ validKeyLength 24 = true ∧
    (0 : Fin 4).val = 24 / 8 - 1 - (2 : Fin 4).val := by decide

/-- `SubkeyPairsByHadamard` has no hypothesis; `ScheduleDependsOnKeyBytesAlone`: two different key
register files that agree on the first eight bytes. -/
theorem test_witness_ScheduleDependsOnKeyBytesAlone :
    let kw : Vec Word 8 := ⟨[1, 2, 3, 4, 5, 6, 7, 8], rfl⟩
    let kw' : Vec Word 8 := ⟨[1, 2, 9, 9, 9, 9, 9, 9], rfl⟩
    validKeyLength 8 = true ∧ kw ≠ kw' ∧
    ∀ j : Fin 32, j.val < 8 → keyByte kw j = keyByte kw' j := by decide +kernel

/-- `TableLookupsComputeF32`, the clause of a given key and length, at the boundary lengths. -/
theorem test_witness_TableLookupsOfKey :
    (Tests.keyed (Vec.replicate 4 0) []).engine.schedule = deriveSchedule (Vec.replicate 8 0) 16 ∧
    validKeyLength 16 = true ∧ validKeyLength 8 = true ∧ validKeyLength 32 = true ∧
    ∃ i3 : Fin 1024, i3.val = 0x200 + 2 * (lane 3 0xFF000000).toNat + 1 :=
  ⟨rfl, by decide, by decide, by decide, ⟨1023, by decide⟩, by decide⟩

/-- A keyed state satisfies the Schedule invariant, with a valid Schedule: `TableLookupsComputeF32`. -/
theorem test_witness_TableLookupsComputeF32 :
    ScheduleInv (Tests.keyed (Vec.replicate 4 0) []).engine ∧
    (Tests.keyed (Vec.replicate 4 0) []).engine.svalid = true :=
  ⟨⟨fun _ => ⟨Vec.replicate 8 0, 16, by decide, rfl⟩, fun h => by cases h⟩, rfl⟩

/-- A valid Schedule, for `EncDeliversCiphertext`, `DecDeliversPlaintext`, `EncryptDecryptRoundTrip`,
`BlockOpRoundTrip` and the wrapper's statements; and none, for the other clause of
`BlockCommandsNeedSchedule` and `BlockOpRoundTrip`. -/
theorem test_witness_BlockCommandsNeedSchedule :
    (Tests.keyed (Vec.replicate 4 0) []).engine.svalid = true ∧
    State.reset.engine.svalid = false := ⟨rfl, rfl⟩

/-- `ErrorsAreAllOrNothing`: a command that ends with an error and one that does not. -/
theorem test_witness_ErrorsAreAllOrNothing :
    (Tests.next (runCommand 0x00000002 State.reset)).engine.err ≠ 0 ∧
    (Tests.next (runCommand 0x00000004 State.reset)).engine.err = 0 := by decide +kernel

/-- `ErrIsResultOfLatestCommand`: a pending transaction for each of its cases, and what the case
answers. -/
theorem test_witness_ErrIsResultOfLatestCommand :
    ([.read 0x0004 4, .write 0x0004 4 1, .write 0x0000 2 1, .write 0x0000 4 0,
      .write 0x0000 4 0x2001, .write 0x0000 4 0x2101, .write 0x0000 4 2, .write 0x0000 4 3,
      .write 0x0000 4 4] : List Transaction).map
      (fun tr => (Tests.next (step (Tests.pending [.serve tr]))).engine.err) =
      [0, 0, 0, 3, 0, 1, 2, 2, 0] := by decide +kernel

/-- `RegisterMapIsOneToOne`: the first and the last register of every group. -/
theorem test_witness_RegisterMapIsOneToOne :
    [0, 1, 0x04, 0x0B, 0x0C, 0x0F, 0x10, 0x13, 0x14, 0x17, 0x40, 0x67, 0x400, 0x7FF].map regAtWord =
      [some .cmd, some .status, some (.keyw 0), some (.keyw 7), some (.din 0), some (.din 3),
        some (.dout 0), some (.dout 3), some (.sboxkey 0), some (.sboxkey 3), some (.subkey 0),
        some (.subkey 39), some (.xsbox 0), some (.xsbox 1023)] := by decide +kernel

/-- `RefusedTransactionsChangeNothing`, reads: on each side of every boundary, refused and accepted. -/
theorem test_witness_RefusedReads :
    ([(0x0000, 4), (0x0004, 4), (0x0004, 2), (0x0006, 4), (0x0008, 4), (0x000C, 4), (0x0010, 4),
      (0x005C, 4), (0x0060, 4), (0x00FC, 4), (0x0100, 4), (0x019C, 4), (0x01A0, 4), (0x0FFC, 4),
      (0x1000, 4), (0x1FFC, 4), (0x1FFF, 1)] : List (Offset × Nat)).map
      (fun p => accepts Engine.reset (.read p.1 p.2)) =
      [false, true, false, false, false, false, true, true, false, false, true, true, false, false,
        true, true, false] := by decide +kernel

/-- `RefusedTransactionsChangeNothing`, writes: on each side of every boundary. -/
theorem test_witness_RefusedWrites :
    ([(0x0000, 4), (0x0004, 4), (0x0008, 4), (0x0010, 4), (0x0010, 1), (0x003C, 4), (0x0040, 4),
      (0x005C, 4), (0x0060, 4), (0x0100, 4), (0x019C, 4), (0x0FFC, 4), (0x1000, 4),
      (0x1FFC, 4)] : List (Offset × Nat)).map (fun p => accepts Engine.reset (.write p.1 p.2 0)) =
      [true, false, false, true, false, true, false, false, false, false, false, false, false,
        false] := by decide +kernel

/-- `ReadReturnsRegisterValue` and `HostWritesReplaceOneRegister`: the transactions they speak of, at
the last register of each group. -/
theorem test_witness_RegisterAccess :
    (Reg.keyw 7).offset = 0x002C ∧ (Reg.din 3).offset = 0x003C ∧ (Reg.xsbox 1023).offset = 0x1FFC ∧
    (Tests.pending [.serve (.write (Reg.keyw 7).offset 4 (5 : Word).toNat)]).pending =
      .serve (.write (Reg.keyw 7).offset 4 (5 : Word).toNat) :: [] ∧
    (Tests.pending [.serve (.read (Reg.xsbox 1023).offset 4)]).pending =
      .serve (.read (Reg.xsbox 1023).offset 4) :: [] := by decide +kernel

/-- `WindowOffsetIsLowAddressBits`: the first and the last address of the window, and the first
beyond it. -/
theorem test_witness_WindowOffset :
    offsetOfAddress Config.BASE = some 0x0000 ∧
    offsetOfAddress (Config.BASE + 0x1FFF) = some 0x1FFF ∧
    offsetOfAddress (Config.BASE + 0x2000) = none := by
  simp [offsetOfAddress, Config.WINDOW_BYTES]

/-- `StepRunsDecodedCommand`: a command that decodes, pending as the write of `CMD`. -/
theorem test_witness_StepRunsDecodedCommand :
    decode 0x00000002 = .ok .enc ∧
    (Tests.keyed (Vec.replicate 4 0) [.serve (.write 0x0000 4 (0x00000002 : Word).toNat)]).pending =
      .serve (.write 0x0000 4 (0x00000002 : Word).toNat) :: [] := ⟨by decide, rfl⟩

/-- `ResetAndIdleSteps`: a reset pending on a keyed engine, and nothing pending. -/
theorem test_witness_ResetAndIdleSteps :
    (Tests.keyed (Vec.replicate 4 0) [.reset]).pending = .reset :: [] ∧
    (Tests.keyed (Vec.replicate 4 0) []).pending = [] := ⟨rfl, rfl⟩

/-- `StepKeepsInvariant`, and the second clause of `StatusReadsErrAndSvalid`: a keyed state that
satisfies the invariant and takes a step. -/
theorem test_witness_StepKeepsInvariant :
    Inv (Tests.keyed (Vec.replicate 4 0) [.reset]) ∧
    ∃ t, step (Tests.keyed (Vec.replicate 4 0) [.reset]) = .next t :=
  ⟨⟨test_witness_TableLookupsComputeF32.1, by decide, fun h => by cases h⟩, _, rfl⟩

/-- `OnlyKschedZeroizeResetWriteSchedule` and `ScheduleIsOfLastAcceptedKey`: events that leave the
Schedule, an accepted length, and events that do not leave it. -/
theorem test_witness_EventsThatKeepSchedule :
    (∀ ev ∈ ([.serve (.read 0x0004 4), .serve (.write 0x0010 4 9), .serve (.write 0x0030 4 9),
      .serve (.write 0x0000 4 2), .serve (.write 0x0000 4 3), .serve (.write 0x0000 4 0x0701),
      .serve (.write 0x0000 4 0), .serve (.write 0x1000 4 9)] : List Event),
      ev.changesSchedule = false) ∧ validKeyLength 8 = true ∧ validKeyLength 32 = true ∧
    (∀ ev ∈ ([.reset, .serve (.write 0x0000 4 4), .serve (.write 0x0000 4 0x0801)] : List Event),
      ev.changesSchedule = true) := by decide +kernel

/-- `ObservationDeterminesState`: two engines that differ and a transaction that tells them apart. -/
theorem test_witness_ObservationDeterminesState :
    observed Engine.reset [.serve (.read 0x0004 4)] ≠
      observed { Engine.reset with err := 1 } [.serve (.read 0x0004 4)] := by decide +kernel

/-- `SetKeyRejectsBadKeys`: the three rejected kinds, and the lengths at their boundaries. -/
theorem test_witness_SetKeyRejectsBadKeys :
    [(setKey none 16 State.reset).1, (setKey (some []) (-1) State.reset).1,
      (setKey (some []) 256 State.reset).1, (setKey (some []) 255 State.reset).1,
      (setKey (some []) 0 State.reset).1] = [1, 1, 1, 1, 1] := by decide +kernel

/-- `SetKeyInstallsKeySchedule` and `CachedCallEqualsExplicitKey`: the shortest and the longest key, and
the last byte of each. -/
theorem test_witness_SetKeyInstallsKeySchedule :
    validKeyLength ([1, 2, 3, 4, 5, 6, 7, 8] : List Byte).length = true ∧
    (7 : Fin 32).val < ([1, 2, 3, 4, 5, 6, 7, 8] : List Byte).length ∧
    validKeyLength (List.replicate 32 (9 : Byte)).length = true ∧
    (31 : Fin 32).val < (List.replicate 32 (9 : Byte)).length := by decide

/-- The bytes of a block operation (46 R253), on the block of `test_enc_byHand` and back: every word goes
in and comes out least significant byte first. -/
theorem test_blockOp_bytes :
    (blockOp .enc ⟨[0x01, 0, 0, 0, 0x02, 0, 0, 0, 0x03, 0x01, 0, 0, 0x04, 0, 0, 0x11], rfl⟩
      (Tests.handMade (Vec.replicate 4 0))).1 =
        .ok ⟨[0x11, 0, 0, 0, 0x31, 0, 0, 0, 0x30, 0, 0, 0, 0x40, 0, 0, 0], rfl⟩ ∧
    (blockOp .dec ⟨[0x11, 0, 0, 0, 0x31, 0, 0, 0, 0x30, 0, 0, 0, 0x40, 0, 0, 0], rfl⟩
      (Tests.handMade (Vec.replicate 4 0))).1 =
        .ok ⟨[0x01, 0, 0, 0, 0x02, 0, 0, 0, 0x03, 0x01, 0, 0, 0x04, 0, 0, 0x11], rfl⟩ := by
  decide +kernel

/-- `WrapperReturnsWholeBlocks`: an input of 17 bytes and room for 47 give two blocks, 0 and 1. -/
theorem test_witness_WrapperReturnsWholeBlocks :
    1 < min ((17 + 15) / 16) (47 / 16) ∧ 0 < min (17 / 16) (47 / 16) ∧
    (Tests.keyed (Vec.replicate 4 0) []).engine.svalid = true := ⟨by decide, by decide, rfl⟩

/-- `WrapperReturnsWholeBlocks`, the clause of the failed allocation, and `DecryptReturnsInputAndFiller`
with exactly the room it needs. -/
theorem test_witness_Wrapper :
    ([1, 2, 3] : List Byte).length % 16 ≠ 0 ∧
    (([1, 2, 3] : List Byte).length + 15) / 16 * 16 ≤ 16 ∧
    (Tests.keyed (Vec.replicate 4 0) []).engine.svalid = true := ⟨by decide, by decide, rfl⟩

/-- A driver whose cache holds the all-zero 16-byte key of a keyed engine. -/
def Tests.cached : DriverState :=
  ⟨Tests.keyed (Vec.replicate 4 0) [], ⟨true, List.replicate 16 0, 16⟩⟩

/-- `CacheReusesMatchingKey`: a first call that succeeds, on an empty cache and on a filled one; one that
fails; and keys the filled cache does not hold: other bytes, a prefix, an absent key. -/
theorem test_witness_CacheReusesMatchingKey :
    (withKey (some [1, 2, 3, 4, 5, 6, 7, 8]) 8 ⟨State.reset, Cache.empty⟩).1 = 0 ∧
    withKey (some (List.replicate 16 0)) 16 Tests.cached = (0, Tests.cached) ∧
    (withKey (some [1, 2, 3, 4, 5, 6, 7]) 7 ⟨State.reset, Cache.empty⟩).1 ≠ 0 ∧
    Cache.empty.filled = false ∧
    ([1, 2, 3, 4, 5, 6, 7, 9] : List Byte).take (8 : Int).toNat ≠
      ([1, 2, 3, 4, 5, 6, 7, 8] : List Byte).take (8 : Int).toNat ∧
    Tests.cached.cache.holds (some (List.replicate 15 0 ++ [1])) 16 = false ∧
    Tests.cached.cache.holds (some (List.replicate 8 0)) 8 = false ∧
    Tests.cached.cache.holds none 16 = false := by
  refine ⟨by decide +kernel, rfl, by decide +kernel, rfl, by decide, ?_, ?_, rfl⟩ <;> decide +kernel

/-- `CachedCallEqualsExplicitKey` and `CachedCallsKeepCacheInvariant`: the invariant holds of a filled
cache, and a key that it holds and one that it does not are keys. -/
theorem test_witness_CacheInv :
    CacheInv Tests.cached ∧ Tests.cached.cache.filled = true ∧
    validKeyLength (List.replicate 16 (0 : Byte)).length = true ∧
    validKeyLength (List.replicate 32 (0 : Byte)).length = true :=
  ⟨fun _ => ⟨16, Vec.replicate 8 0, rfl, by decide, by decide +kernel, rfl, rfl⟩, rfl, by decide,
    by decide⟩
end

section
/-!
PROOFS. The statements on the engine's state (10_state.md): what a step keeps, who may write the Schedule
and `ERR`, and what `STATUS` reads. First the equations of the commands, of the service of a transaction
and of a step; then the invariant; then each statement.
-/

namespace Sys2Proof.Machine

/-! ### The commands, case by case -/

/-- The accepted key lengths, written out (42_key_schedule.md R161). -/
theorem validKeyLength_iff {len : Nat} :
    validKeyLength len = true ↔ len = 8 ∨ len = 16 ∨ len = 24 ∨ len = 32 := by
  simp [validKeyLength, Config.KEY_BYTES]

theorem exec_ksched_of_valid {len : Nat} (h : validKeyLength len = true) (s : State) :
    exec (.ksched len) s = .next (s.publish (deriveSchedule s.engine.keyw len)) := if_pos h

theorem exec_ksched_of_invalid {len : Nat} (h : ¬ validKeyLength len = true) (s : State) :
    exec (.ksched len) s = .next (s.raise .invalidKey) := if_neg h

theorem exec_enc_of_svalid {s : State} (h : s.engine.svalid = true) :
    exec .enc s = .next (s.deliver (encBlock s.engine.xsbox s.engine.subkey s.engine.din)) :=
  if_pos h

theorem exec_enc_of_not_svalid {s : State} (h : ¬ s.engine.svalid = true) :
    exec .enc s = .next (s.raise .noSchedule) := if_neg h

theorem exec_dec_of_svalid {s : State} (h : s.engine.svalid = true) :
    exec .dec s = .next (s.deliver (decBlock s.engine.xsbox s.engine.subkey s.engine.din)) :=
  if_pos h

theorem exec_dec_of_not_svalid {s : State} (h : ¬ s.engine.svalid = true) :
    exec .dec s = .next (s.raise .noSchedule) := if_neg h

theorem exec_zeroize (s : State) : exec .zeroize s = .next s.clear := rfl

/-- No command stops the machine (60_exceptions.md R297). -/
theorem exec_total (i : Instr) (s : State) : ∃ t, exec i s = .next t := by
  cases i with
  | ksched len =>
    by_cases hv : validKeyLength len = true
    · exact ⟨_, exec_ksched_of_valid hv s⟩
    · exact ⟨_, exec_ksched_of_invalid hv s⟩
  | enc =>
    by_cases hs : s.engine.svalid = true
    · exact ⟨_, exec_enc_of_svalid hs⟩
    · exact ⟨_, exec_enc_of_not_svalid hs⟩
  | dec =>
    by_cases hs : s.engine.svalid = true
    · exact ⟨_, exec_dec_of_svalid hs⟩
    · exact ⟨_, exec_dec_of_not_svalid hs⟩
  | zeroize => exact ⟨_, exec_zeroize s⟩

/-! ### Command words, transactions and steps -/

theorem runCommand_of_ok {w : Word} {i : Instr} (h : decode w = .ok i) (s : State) :
    runCommand w s = exec i s := by
  simp [runCommand, h]

theorem runCommand_of_error {w : Word} {r : IllegalWord} (h : decode w = .error r) (s : State) :
    runCommand w s = .next (s.raise .illegalCommand) := by
  simp [runCommand, h]

theorem runCommand_total (w : Word) (s : State) : ∃ t, runCommand w s = .next t := by
  cases hd : decode w with
  | ok i => exact runCommand_of_ok hd s ▸ exec_total i s
  | error r => exact ⟨_, runCommand_of_error hd s⟩

theorem regAtWord_eq_cmd_iff {k : Nat} : regAtWord k = some .cmd ↔ k = 0 := by
  constructor
  · intro h
    unfold regAtWord at h
    split at h
    · assumption
    · repeat' split at h
      all_goals simp at h
  · rintro rfl
    rfl

theorem Reg.writeTarget_eq_cmd_iff {r : Reg} : r.writeTarget = some .cmd ↔ r = .cmd := by
  cases r <;> simp [Reg.writeTarget]

/-- The one offset whose write is a command is 0x0000, in a 32-bit transaction
(20_memory.md R61, R64). -/
theorem writeAt_eq_cmd_iff {off : Offset} {size : Nat} :
    writeAt off size = .ok .cmd ↔ size = 4 ∧ off = 0x0000 := by
  constructor
  · intro h
    obtain ⟨r, hl, ht⟩ := writeAt_ok_iff.mp h
    obtain ⟨hsize, hmod, hreg⟩ := locate_ok_iff.mp hl
    have hr : r = .cmd := Reg.writeTarget_eq_cmd_iff.mp ht
    have hword : off.toNat / 4 = 0 := regAtWord_eq_cmd_iff.mp (hr ▸ hreg)
    exact ⟨hsize, BitVec.eq_of_toNat_eq (by simp; omega)⟩
  · rintro ⟨rfl, rfl⟩
    rfl

theorem serve_write_cmd {off : Offset} {size : Nat} (h : writeAt off size = .ok .cmd) (d : Nat)
    (s : State) : serve (.write off size d) s =
      onNext (State.respond (.write .okay)) (runCommand (BitVec.ofNat 32 d) s) := by
  simp [serve, h, applyWrite]

/-- Every transaction can be served (20_memory.md R82). -/
theorem serve_total (tr : Transaction) (s : State) : ∃ t, serve tr s = .next t := by
  cases tr with
  | read off size => exact ⟨_, rfl⟩
  | write off size d =>
    cases hw : writeAt off size with
    | error r => exact ⟨s.respond (.write .buserr), by simp [serve, hw]⟩
    | ok target =>
      cases target with
      | cmd =>
        obtain ⟨u, hu⟩ := runCommand_total (BitVec.ofNat 32 d) s
        exact ⟨u.respond (.write .okay), by simp [serve_write_cmd hw, hu]⟩
      | keyw n =>
        exact ⟨(s.writeKeyw n (BitVec.ofNat 32 d)).respond (.write .okay),
          by simp [serve, hw, applyWrite]⟩
      | din n =>
        exact ⟨(s.writeDin n (BitVec.ofNat 32 d)).respond (.write .okay),
          by simp [serve, hw, applyWrite]⟩

theorem step_serve {s : State} {tr : Transaction} {rest : List Event}
    (h : s.pending = .serve tr :: rest) : step s = serve tr { s with pending := rest } := by
  simp [step, takeEvent, h]

/-- Settles O42. -/
theorem stepRunsDecodedCommand : Obligations.StepRunsDecodedCommand := by
  intro s w i rest hd hp
  have hw : writeAt 0x0000 4 = .ok .cmd := writeAt_eq_cmd_iff.mpr ⟨rfl, rfl⟩
  rw [step_serve hp, serve_write_cmd hw, BitVec.ofNat_toNat, BitVec.setWidth_eq,
    runCommand_of_ok hd]

/-! ### Reset -/

/-- Settles O33. -/
theorem resetZeroesEverything : Obligations.ResetZeroesEverything :=
  ⟨Vec.get_replicate 0, Vec.get_replicate 0, Vec.get_replicate 0, Vec.get_replicate 0,
    Vec.get_replicate 0, Vec.get_replicate 0, rfl, rfl, rfl, rfl⟩

/-! ### The invariant -/

/-- The registers right after reset satisfy the invariant, whatever is pending or answered. -/
theorem inv_of_engine_reset {s : State} (h : s.engine = Engine.reset) : Inv s := by
  unfold Inv
  rw [h]
  exact ⟨⟨by simp, fun _ => rfl⟩, by simp, fun _ => rfl⟩

/-- Settles O45. -/
theorem invariantHoldsAtReset : Obligations.InvariantHoldsAtReset := inv_of_engine_reset rfl

-- Neither a response nor a host's write of key or block touches a register the invariant speaks of.
@[simp] theorem inv_respond_iff {r : Response} {s : State} : Inv (s.respond r) ↔ Inv s := Iff.rfl
@[simp] theorem inv_writeKeyw_iff {n : Fin 8} {v : Word} {s : State} :
    Inv (s.writeKeyw n v) ↔ Inv s := Iff.rfl
@[simp] theorem inv_writeDin_iff {n : Fin 4} {v : Word} {s : State} :
    Inv (s.writeDin n v) ↔ Inv s := Iff.rfl

theorem ErrCode.code_le_three (c : ErrCode) : c.code.toNat ≤ 3 := by cases c <;> decide

theorem ErrCode.code_eq_two_iff {c : ErrCode} : c.code = 2 ↔ c = .noSchedule := by
  cases c <;> decide

/-- An error keeps the invariant, provided `NoSchedule` is raised only without a Schedule. -/
theorem inv_raise {c : ErrCode} {s : State} (h : Inv s)
    (hc : c = .noSchedule → s.engine.svalid = false) : Inv (s.raise c) :=
  ⟨h.1, c.code_le_three, fun h2 => hc (ErrCode.code_eq_two_iff.mp h2)⟩

/-- Publishing a derivation establishes the invariant from any state. -/
theorem inv_publish {len : Nat} (h : validKeyLength len = true) (kw : Vec Word 8) (s : State) :
    Inv (s.publish (deriveSchedule kw len)) := by
  have hsched : ScheduleInv (s.publish (deriveSchedule kw len)).engine :=
    ⟨fun _ => ⟨kw, len, h, rfl⟩, by simp⟩
  exact ⟨hsched, by simp [StatusInv]⟩

theorem inv_deliver {b : Vec Word 4} {s : State} (h : Inv s) : Inv (s.deliver b) :=
  ⟨h.1, by simp [StatusInv]⟩

theorem exec_keeps_inv {i : Instr} {s t : State} (hs : Inv s) (h : exec i s = .next t) : Inv t := by
  rcases exec_cases h with ⟨c, _, hc, rfl⟩ | ⟨len, _, hv, rfl⟩ | ⟨b, _, _, rfl⟩ | ⟨_, rfl⟩
  · exact inv_raise hs hc
  · exact inv_publish hv _ s
  · exact inv_deliver hs
  · exact inv_of_engine_reset rfl

theorem runCommand_keeps_inv {w : Word} {s t : State} (hs : Inv s) (h : runCommand w s = .next t) :
    Inv t := by
  rcases runCommand_cases h with ⟨i, _, hi⟩ | ⟨r, _, rfl⟩
  · exact exec_keeps_inv hs hi
  · exact inv_raise hs (by simp)

theorem serve_keeps_inv {tr : Transaction} {s t : State} (hs : Inv s) (h : serve tr s = .next t) :
    Inv t := by
  rcases serve_cases h with ⟨off, size, _, rfl⟩ | ⟨off, size, d, r, _, _, rfl⟩ |
    ⟨off, size, d, u, _, _, hu, rfl⟩ | ⟨off, size, d, n, _, _, rfl⟩ | ⟨off, size, d, n, _, _, rfl⟩
  case inr.inr.inl => exact inv_respond_iff.mpr (runCommand_keeps_inv hs hu)
  all_goals simpa using hs

/-- Settles O46, along the branches of a step: idle, reset, or one transaction. -/
theorem stepKeepsInvariant : Obligations.StepKeepsInvariant := by
  intro s t hs h
  rcases step_cases h with ⟨_, rfl⟩ | ⟨rest, _, rfl⟩ | ⟨tr, rest, _, htr⟩
  · exact hs
  · exact inv_of_engine_reset rfl
  · have hs' : Inv ⟨s.engine, rest, s.responses⟩ := hs
    exact serve_keeps_inv hs' htr

/-! ### `ERR` after a transaction -/

theorem exec_ksched_err {len : Nat} {s t : State} (h : exec (.ksched len) s = .next t) :
    t.engine.err = if len = 8 ∨ len = 16 ∨ len = 24 ∨ len = 32 then 0 else 1 := by
  rcases execKsched_cases h with ⟨hv, rfl⟩ | ⟨hv, rfl⟩
  · rw [if_pos (validKeyLength_iff.mp hv)]; rfl
  · rw [if_neg fun hl => by simp [validKeyLength_iff.mpr hl] at hv]; rfl

/-- Both block commands: success with a Schedule, `NoSchedule` without one
(44_block_transform.md R210). -/
theorem exec_block_err {i : Instr} (hi : i = .enc ∨ i = .dec) {s t : State}
    (h : exec i s = .next t) : t.engine.err = if s.engine.svalid then 0 else 2 := by
  have hcases : (s.engine.svalid = true ∧ ∃ b, t = s.deliver b) ∨
      (s.engine.svalid = false ∧ t = s.raise .noSchedule) := by
    rcases hi with rfl | rfl
    · exact (execEnc_cases h).imp_left fun ⟨hv, ht⟩ => ⟨hv, _, ht⟩
    · exact (execDec_cases h).imp_left fun ⟨hv, ht⟩ => ⟨hv, _, ht⟩
  rcases hcases with ⟨hv, b, rfl⟩ | ⟨hv, rfl⟩ <;> simp [hv, ErrCode.code]

/-- A write that is no accepted `CMD` write leaves `ERR` (10_state.md R34). -/
theorem serve_write_err_of_not_cmd {off : Offset} {size d : Nat} {s t : State}
    (hw : writeAt off size ≠ .ok .cmd) (h : serve (.write off size d) s = .next t) :
    t.engine.err = s.engine.err := by
  rcases serve_cases h with ⟨_, _, _, rfl⟩ | ⟨_, _, _, _, _, _, rfl⟩ |
    ⟨_, _, _, u, heq, hcmd, _⟩ | ⟨_, _, _, _, _, _, rfl⟩ | ⟨_, _, _, _, _, _, rfl⟩
  case inr.inr.inl => cases heq; exact absurd hcmd hw
  all_goals rfl

/-- Settles O35, along the order of checks of 60_exceptions.md R286: the window, the decoder, the
command. -/
theorem errIsResultOfLatestCommand : Obligations.ErrIsResultOfLatestCommand := by
  intro s tr rest hp
  obtain ⟨t, ht⟩ := serve_total tr { s with pending := rest }
  refine ⟨t, (step_serve hp).trans ht, ?_⟩
  cases tr with
  | read off size => cases ht; rfl
  | write off size d =>
    by_cases hc : size = 4 ∧ off = 0x0000
    case neg =>
      simp only [if_neg hc]
      exact (serve_write_err_of_not_cmd (mt writeAt_eq_cmd_iff.mp hc) ht :)
    simp only [if_pos hc]
    rw [serve_write_cmd (writeAt_eq_cmd_iff.mpr hc)] at ht
    obtain ⟨u, hu, rfl⟩ := onNext_cases ht
    rcases runCommand_cases hu with ⟨i, hd, hi⟩ | ⟨r, hd, rfl⟩ <;> simp only [hd]
    · cases i with
      | ksched len => exact (exec_ksched_err hi :)
      | enc => exact (exec_block_err (.inl rfl) hi :)
      | dec => exact (exec_block_err (.inr rfl) hi :)
      | zeroize => cases hi; rfl
    · rfl

/-! ### `STATUS` -/

/-- The codes that the invariant allows, written out. -/
theorem StatusInv.err_cases {e : Engine} (h : StatusInv e) :
    e.err = 0 ∨ e.err = 1 ∨ (e.err = 2 ∧ e.svalid = false) ∨ e.err = 3 := by
  obtain ⟨hle, htwo⟩ := h
  have hcode : e.err = 0 ∨ e.err = 1 ∨ e.err = 2 ∨ e.err = 3 := by bv_omega
  exact hcode.imp_right (Or.imp_right (Or.imp_left fun h2 => ⟨h2, htwo h2⟩))

/-- The fields of `STATUS` over the 32 values of `ERR` and `SVALID`. -/
theorem status_fields (e : Engine) : statusErr e.status = e.err ∧ statusSvalid e.status = e.svalid ∧
    e.status &&& 0xFFFFFF0E = 0 := by
  unfold Engine.status
  generalize e.err = err, e.svalid = svalid
  revert err svalid
  decide

/-- Settles O40. -/
theorem statusReadsErrAndSvalid : Obligations.StatusReadsErrAndSvalid := by
  refine ⟨status_fields, fun s ⟨_, hstatus⟩ => ?_⟩
  rcases hstatus.err_cases with he | he | ⟨he, hv⟩ | he
  case inr.inr.inl => simp [Engine.status, he, hv]
  all_goals cases hv : s.engine.svalid <;> simp [Engine.status, he, hv]

/-! ### Who writes the Schedule and `SVALID` -/

/-- The Schedule and `SVALID` of `b` are those of `a`. -/
def SameSchedule (a b : Engine) : Prop := b.schedule = a.schedule ∧ b.svalid = a.svalid

theorem SameSchedule.trans {a b c : Engine} (hab : SameSchedule a b) (hbc : SameSchedule b c) :
    SameSchedule a c := ⟨hbc.1.trans hab.1, hbc.2.trans hab.2⟩

theorem commandChangesSchedule_of_ksched {w : Word} {len : Nat} (h : decode w = .ok (.ksched len)) :
    commandChangesSchedule w = validKeyLength len := by
  simp [commandChangesSchedule, h]

theorem commandChangesSchedule_of_zeroize {w : Word} (h : decode w = .ok .zeroize) :
    commandChangesSchedule w = true := by
  simp [commandChangesSchedule, h]

theorem Event.changesSchedule_write_cmd {off : Offset} {size : Nat}
    (h : writeAt off size = .ok .cmd) (d : Nat) :
    Event.changesSchedule (.serve (.write off size d)) =
      commandChangesSchedule (BitVec.ofNat 32 d) := by
  simp [Event.changesSchedule, h]

/-- Of what a command word can do, only a publication and a clearing write the Schedule. -/
theorem runCommand_sameSchedule {w : Word} {s t : State} (hw : commandChangesSchedule w = false)
    (h : runCommand w s = .next t) : SameSchedule s.engine t.engine := by
  rcases runCommand_cases h with ⟨i, hd, hi⟩ | ⟨r, _, rfl⟩
  · rcases exec_cases hi with ⟨c, _, _, rfl⟩ | ⟨len, rfl, hv, _⟩ | ⟨b, _, _, rfl⟩ | ⟨rfl, _⟩
    · exact ⟨rfl, rfl⟩
    · simp [commandChangesSchedule_of_ksched hd, hv] at hw
    · exact ⟨rfl, rfl⟩
    · simp [commandChangesSchedule_of_zeroize hd] at hw
  · exact ⟨rfl, rfl⟩

theorem serve_sameSchedule {tr : Transaction} {s t : State}
    (htr : Event.changesSchedule (.serve tr) = false) (h : serve tr s = .next t) :
    SameSchedule s.engine t.engine := by
  rcases serve_cases h with ⟨_, _, _, rfl⟩ | ⟨_, _, _, _, _, _, rfl⟩ |
    ⟨off, size, d, u, rfl, hcmd, hu, rfl⟩ | ⟨_, _, _, _, _, _, rfl⟩ | ⟨_, _, _, _, _, _, rfl⟩
  case inr.inr.inl =>
    rw [Event.changesSchedule_write_cmd hcmd] at htr
    exact (runCommand_sameSchedule htr hu :)
  all_goals exact ⟨rfl, rfl⟩

/-- Settles O47. -/
theorem onlyKschedZeroizeResetWriteSchedule : Obligations.OnlyKschedZeroizeResetWriteSchedule := by
  intro s ev rest hp hev
  cases ev with
  | reset => cases hev
  | serve tr =>
    obtain ⟨t, ht⟩ := serve_total tr { s with pending := rest }
    exact ⟨t, (step_serve hp).trans ht, (serve_sameSchedule hev ht :)⟩

/-! ### The Schedule of the last accepted key -/

theorem issue_sameSchedule {ev : Event} (h : ev.changesSchedule = false) (s : State) :
    SameSchedule s.engine (issue ev s).engine := by
  cases ev with
  | reset => cases h
  | serve tr =>
    obtain ⟨t, ht⟩ := serve_total tr s
    rw [issue_serve ht]
    exact serve_sameSchedule h ht

@[simp] theorem issueAll_nil (s : State) : issueAll [] s = s := rfl

@[simp] theorem issueAll_cons (ev : Event) (evs : List Event) (s : State) :
    issueAll (ev :: evs) s = issueAll evs (issue ev s) := rfl

theorem issueAll_sameSchedule {evs : List Event} (h : ∀ ev ∈ evs, ev.changesSchedule = false)
    (s : State) : SameSchedule s.engine (issueAll evs s).engine := by
  induction evs generalizing s with
  | nil => exact ⟨rfl, rfl⟩
  | cons ev evs ih =>
    obtain ⟨hev, hevs⟩ := List.forall_mem_cons.mp h
    exact (issue_sameSchedule hev s).trans (ih hevs (issue ev s))

theorem decode_encode_ksched_of_valid {len : Nat} (h : validKeyLength len = true) :
    decode (encode (.ksched len)) = .ok (.ksched len) := by
  rcases validKeyLength_iff.mp h with rfl | rfl | rfl | rfl <;> rfl

/-- Issuing a command word is answered `OKAY`, whatever the command's result
(20_memory.md R61). -/
theorem issue_commandWrite {w : Word} {s t : State} (h : runCommand w s = .next t) :
    issue (.serve (commandWrite w.toNat)) s = t.respond (.write .okay) := by
  apply issue_serve
  have hw : writeAt (Reg.offset .cmd) 4 = .ok .cmd := writeAt_eq_cmd_iff.mpr ⟨rfl, rfl⟩
  simp [commandWrite, serve_write_cmd hw, h]

/-- An accepted `KSCHED` publishes the derivation from the key words `KEYW` holds at that moment. -/
theorem issue_ksched_of_valid {len : Nat} (h : validKeyLength len = true) (s : State) :
    issue (.serve (commandWrite (encode (.ksched len)).toNat)) s =
      (s.publish (deriveSchedule s.engine.keyw len)).respond (.write .okay) :=
  issue_commandWrite
    ((runCommand_of_ok (decode_encode_ksched_of_valid h) s).trans (exec_ksched_of_valid h s))

/-- Settles O48: the `KSCHED` publishes, and the later events keep what it published, by induction on
their list. -/
theorem scheduleIsOfLastAcceptedKey : Obligations.ScheduleIsOfLastAcceptedKey := by
  intro s len evs hlen hevs
  rw [issueAll_cons, issue_ksched_of_valid hlen]
  obtain ⟨hsched, hsvalid⟩ := issueAll_sameSchedule hevs
    ((s.publish (deriveSchedule s.engine.keyw len)).respond (.write .okay))
  exact ⟨by simpa using hsvalid, by simpa using hsched⟩

end Sys2Proof.Machine
end

section
/-!
PROOFS. The statements on the register window and the order of service (20_memory.md). First the map as a
relation between registers and offsets, and from it what is refused; then what a step does with a read and
with a write; then that no event sees or changes what is pending behind it, from which the order of service
follows; last what an observer learns from reads.

`Elab.async` is off here as in the tests: in the joined text these theorems would otherwise wait, each on a
thread of its own, for the long evaluations before them.
-/

set_option Elab.async false

namespace Sys2Proof.Machine

/-! ### The register map -/

theorem offset_toNat_ofNat {k : Nat} (h : k < 0x2000) : (BitVec.ofNat 13 k).toNat = k := by
  rw [BitVec.toNat_ofNat, Nat.mod_eq_of_lt h]

@[simp] theorem Reg.offset_cmd : Reg.cmd.offset.toNat = 0x0000 := rfl
@[simp] theorem Reg.offset_status : Reg.status.offset.toNat = 0x0004 := rfl
@[simp] theorem Reg.offset_keyw (n : Fin 8) : (Reg.keyw n).offset.toNat = 0x0010 + 4 * n.val :=
  offset_toNat_ofNat (by omega)
@[simp] theorem Reg.offset_din (n : Fin 4) : (Reg.din n).offset.toNat = 0x0030 + 4 * n.val :=
  offset_toNat_ofNat (by omega)
@[simp] theorem Reg.offset_dout (n : Fin 4) : (Reg.dout n).offset.toNat = 0x0040 + 4 * n.val :=
  offset_toNat_ofNat (by omega)
@[simp] theorem Reg.offset_sboxkey (n : Fin 4) :
    (Reg.sboxkey n).offset.toNat = 0x0050 + 4 * n.val := offset_toNat_ofNat (by omega)
@[simp] theorem Reg.offset_subkey (n : Fin 40) :
    (Reg.subkey n).offset.toNat = 0x0100 + 4 * n.val := offset_toNat_ofNat (by omega)
@[simp] theorem Reg.offset_xsbox (n : Fin 1024) :
    (Reg.xsbox n).offset.toNat = 0x1000 + 4 * n.val := offset_toNat_ofNat (by omega)

theorem regAtWord_status : regAtWord 1 = some .status := rfl
theorem regAtWord_keyw (n : Fin 8) : regAtWord (0x04 + n.val) = some (.keyw n) := by
  grind [regAtWord]
theorem regAtWord_din (n : Fin 4) : regAtWord (0x0C + n.val) = some (.din n) := by
  grind [regAtWord]
theorem regAtWord_dout (n : Fin 4) : regAtWord (0x10 + n.val) = some (.dout n) := by
  grind [regAtWord]
theorem regAtWord_sboxkey (n : Fin 4) : regAtWord (0x14 + n.val) = some (.sboxkey n) := by
  grind [regAtWord]
theorem regAtWord_subkey (n : Fin 40) : regAtWord (0x40 + n.val) = some (.subkey n) := by
  grind [regAtWord]
theorem regAtWord_xsbox (n : Fin 1024) : regAtWord (0x400 + n.val) = some (.xsbox n) := by
  grind [regAtWord]

/-- A word of the window holds a register exactly when four times the word is the register's offset. -/
theorem regAtWord_eq_some_iff {k : Nat} {r : Reg} :
    regAtWord k = some r ↔ r.offset.toNat = 4 * k := by
  constructor
  · intro h
    unfold regAtWord at h
    repeat' split at h
    all_goals cases h
    all_goals simp
    all_goals omega
  · intro h
    have hword {j : Nat} (hj : regAtWord j = some r) (hk : k = j) : regAtWord k = some r := hk ▸ hj
    cases r with
    | cmd => exact regAtWord_eq_cmd_iff.mpr (by simpa using h.symm)
    | status => exact hword regAtWord_status (by simp at h; omega)
    | keyw n => exact hword (regAtWord_keyw n) (by simp at h; omega)
    | din n => exact hword (regAtWord_din n) (by simp at h; omega)
    | dout n => exact hword (regAtWord_dout n) (by simp at h; omega)
    | sboxkey n => exact hword (regAtWord_sboxkey n) (by simp at h; omega)
    | subkey n => exact hword (regAtWord_subkey n) (by simp at h; omega)
    | xsbox n => exact hword (regAtWord_xsbox n) (by simp at h; omega)

/-- Every register is aligned (20_memory.md R65). -/
theorem Reg.offset_mod_four (r : Reg) : r.offset.toNat % 4 = 0 := by
  cases r <;> simp

/-- The words that hold a register, the complement of the reserved ones (20_memory.md R67). -/
theorem regAtWord_isSome_iff {k : Nat} : (regAtWord k).isSome = true ↔
    k < 2 ∨ (0x04 ≤ k ∧ k < 0x18) ∨ (0x40 ≤ k ∧ k < 0x68) ∨ (0x400 ≤ k ∧ k < 0x800) := by
  unfold regAtWord
  repeat' split
  all_goals simp
  all_goals omega

/-- The words that hold a register are four disjoint intervals of 2, 20, 40 and 1024 words. -/
theorem count_regAtWord :
    ((List.range 2048).filter fun k => (regAtWord k).isSome).length = 1086 := by
  have hcard : ((List.range 2048).filter fun k => (regAtWord k).isSome).length =
      ((Finset.range 2048).filter fun k => (regAtWord k).isSome = true).card := by
    simp [Finset.card, Finset.filter, Finset.range, Multiset.range]
  have hwords : (Finset.range 2048).filter (fun k => (regAtWord k).isSome = true) =
      Finset.Ico 0 2 ∪ (Finset.Ico 4 0x18 ∪ (Finset.Ico 0x40 0x68 ∪ Finset.Ico 0x400 0x800)) := by
    ext k
    simp only [Finset.mem_filter, Finset.mem_range, regAtWord_isSome_iff, Finset.mem_union,
      Finset.mem_Ico]
    omega
  rw [hcard, hwords]
  repeat rw [Finset.card_union_of_disjoint]
  · simp
  all_goals
    simp only [Finset.disjoint_left, Finset.mem_union, Finset.mem_Ico]
    omega

/-- Settles O36. -/
theorem registerMapIsOneToOne : Obligations.RegisterMapIsOneToOne := by
  refine ⟨⟨rfl, rfl, Reg.offset_keyw, Reg.offset_din, Reg.offset_dout, Reg.offset_sboxkey,
    Reg.offset_subkey, Reg.offset_xsbox⟩, fun r => ?_, fun k r => regAtWord_eq_some_iff.mp,
    count_regAtWord⟩
  have hmod := r.offset_mod_four
  exact ⟨hmod, regAtWord_eq_some_iff.mpr (by omega)⟩

/-! ### What is refused -/

/-- A transaction finds a register exactly when it has size 4 and names the register's offset. -/
theorem locate_eq_ok_iff {off : Offset} {size : Nat} {r : Reg} :
    locate off size = .ok r ↔ size = 4 ∧ r.offset = off := by
  rw [locate_ok_iff, regAtWord_eq_some_iff]
  have hmod := r.offset_mod_four
  constructor
  · rintro ⟨hsize, halign, hoff⟩
    exact ⟨hsize, BitVec.eq_of_toNat_eq (by omega)⟩
  · rintro ⟨hsize, rfl⟩
    exact ⟨hsize, hmod, by omega⟩

theorem locate_offset (r : Reg) : locate r.offset 4 = .ok r := locate_eq_ok_iff.mpr ⟨rfl, rfl⟩

/-- Tests 1 to 3 of 20_memory.md R66, with the reserved offsets of R67 in numbers. -/
def AccessRefused (off : Offset) (size : Nat) : Prop :=
  size ≠ 4 ∨ off.toNat % 4 ≠ 0 ∨ (0x0008 ≤ off.toNat ∧ off.toNat < 0x0010) ∨
    (0x0060 ≤ off.toNat ∧ off.toNat < 0x0100) ∨ (0x01A0 ≤ off.toNat ∧ off.toNat < 0x1000)

/-- The tests for a read: tests 1 to 3, and the write-only `CMD` (20_memory.md R66). -/
def ReadRefused (off : Offset) (size : Nat) : Prop := AccessRefused off size ∨ off.toNat = 0x0000

/-- Within the registers' offsets: `STATUS`, `DOUT` and the Schedule (20_memory.md R61). -/
def ReadOnlyOffset (off : Offset) : Prop :=
  off.toNat = 0x0004 ∨ (0x0040 ≤ off.toNat ∧ off.toNat < 0x0060) ∨
    (0x0100 ≤ off.toNat ∧ off.toNat < 0x01A0) ∨ 0x1000 ≤ off.toNat

/-- The tests for a write: tests 1 to 3, and the read-only registers (20_memory.md R66). -/
def WriteRefused (off : Offset) (size : Nat) : Prop := AccessRefused off size ∨ ReadOnlyOffset off

theorem exists_locate_iff {off : Offset} {size : Nat} :
    (∃ r, locate off size = .ok r) ↔ ¬ AccessRefused off size := by
  have hsome : (∃ r, regAtWord (off.toNat / 4) = some r) ↔ _ :=
    Option.isSome_iff_exists.symm.trans regAtWord_isSome_iff
  simp only [locate_ok_iff, exists_and_left, hsome, AccessRefused]
  have hlt := off.isLt
  omega

theorem Engine.exists_readReg_iff (e : Engine) (r : Reg) :
    (∃ v, e.readReg r = some v) ↔ r.offset.toNat ≠ 0x0000 := by
  cases r <;> simp [Engine.readReg]

theorem Reg.exists_writeTarget_iff (r : Reg) :
    (∃ t, r.writeTarget = some t) ↔ ¬ ReadOnlyOffset r.offset := by
  cases r <;> simp [Reg.writeTarget, ReadOnlyOffset] <;> omega

/-- A located register's access right, read off the offset of the transaction. -/
theorem exists_locate_and_iff {off : Offset} {size : Nat} (p : Offset → Prop) :
    (∃ r, locate off size = .ok r ∧ p r.offset) ↔ ¬ AccessRefused off size ∧ p off := by
  rw [← exists_locate_iff]
  constructor
  · rintro ⟨r, hl, hp⟩
    exact ⟨⟨r, hl⟩, (locate_eq_ok_iff.mp hl).2 ▸ hp⟩
  · rintro ⟨⟨r, hl⟩, hp⟩
    exact ⟨r, hl, (locate_eq_ok_iff.mp hl).2.symm ▸ hp⟩

theorem exists_readAt_iff {e : Engine} {off : Offset} {size : Nat} :
    (∃ v, e.readAt off size = .ok v) ↔ ¬ ReadRefused off size := by
  calc (∃ v, e.readAt off size = .ok v)
    _ ↔ ∃ r, locate off size = .ok r ∧ ∃ v, e.readReg r = some v := by
      simp only [readAt_ok_iff, ← exists_and_left]; exact exists_comm
    _ ↔ ¬ AccessRefused off size ∧ off.toNat ≠ 0x0000 := by
      simp only [Engine.exists_readReg_iff]; exact exists_locate_and_iff fun o => o.toNat ≠ 0x0000
    _ ↔ ¬ ReadRefused off size := not_or.symm

theorem exists_writeAt_iff {off : Offset} {size : Nat} :
    (∃ t, writeAt off size = .ok t) ↔ ¬ WriteRefused off size := by
  calc (∃ t, writeAt off size = .ok t)
    _ ↔ ∃ r, locate off size = .ok r ∧ ∃ t, r.writeTarget = some t := by
      simp only [writeAt_ok_iff, ← exists_and_left]; exact exists_comm
    _ ↔ ¬ AccessRefused off size ∧ ¬ ReadOnlyOffset off := by
      simp only [Reg.exists_writeTarget_iff]
      exact exists_locate_and_iff fun o => ¬ ReadOnlyOffset o
    _ ↔ ¬ WriteRefused off size := not_or.symm

/-! ### Serving a read -/

theorem step_read {s : State} {off : Offset} {size : Nat} {rest : List Event}
    (h : s.pending = .serve (.read off size) :: rest) :
    step s = .next ⟨s.engine, rest, s.responses ++ [s.engine.readResponse off size]⟩ :=
  step_serve h

/-- The answer to a read at a register's offset. -/
theorem readResponse_offset (e : Engine) (r : Reg) :
    e.readResponse r.offset 4 = (e.readReg r).elim (.read .buserr 0) (.read .okay) := by
  cases hr : e.readReg r <;> simp [Engine.readResponse, Engine.readAt, locate_offset, hr]

/-- Settles O38. -/
theorem readReturnsRegisterValue : Obligations.ReadReturnsRegisterValue := by
  intro s r rest hp
  have hstep := step_read hp
  rw [readResponse_offset] at hstep
  cases r <;> exact hstep

/-! ### Serving a write -/

theorem serve_write_of_error {off : Offset} {size : Nat} {r : BusRefusal}
    (h : writeAt off size = .error r) (d : Nat) (s : State) :
    serve (.write off size d) s = .next (s.respond (.write .buserr)) := by
  simp [serve, h]

theorem serve_write_of_ok {off : Offset} {size : Nat} {target : WriteTarget}
    (h : writeAt off size = .ok target) (d : Nat) (s : State) :
    serve (.write off size d) s =
      onNext (State.respond (.write .okay)) (applyWrite target (BitVec.ofNat 32 d) s) := by
  simp [serve, h]

theorem writeAt_keyw (n : Fin 8) : writeAt (Reg.keyw n).offset 4 = .ok (.keyw n) :=
  writeAt_ok_iff.mpr ⟨.keyw n, locate_offset _, rfl⟩

theorem writeAt_din (n : Fin 4) : writeAt (Reg.din n).offset 4 = .ok (.din n) :=
  writeAt_ok_iff.mpr ⟨.din n, locate_offset _, rfl⟩

/-- Settles O39. -/
theorem hostWritesReplaceOneRegister : Obligations.HostWritesReplaceOneRegister := by
  refine ⟨fun s n v rest hp => ?_, fun s n v rest hp => ?_, fun s n v => ?_, fun s n v => ?_⟩
  · rw [step_serve hp, serve_write_of_ok (writeAt_keyw n), BitVec.ofNat_toNat, BitVec.setWidth_eq]
    rfl
  · rw [step_serve hp, serve_write_of_ok (writeAt_din n), BitVec.ofNat_toNat, BitVec.setWidth_eq]
    rfl
  · simp [State.writeKeyw]
  · simp [State.writeDin]

/-- A command gives no response of its own: the response is the transaction's. -/
theorem exec_responses {i : Instr} {s t : State} (h : exec i s = .next t) :
    t.responses = s.responses := by
  rcases exec_cases h with ⟨_, _, _, rfl⟩ | ⟨_, _, _, rfl⟩ | ⟨_, _, _, rfl⟩ | ⟨_, rfl⟩ <;> rfl

theorem applyWrite_responses {target : WriteTarget} {v : Word} {s t : State}
    (h : applyWrite target v s = .next t) : t.responses = s.responses := by
  cases target with
  | cmd =>
    rcases runCommand_cases h with ⟨i, _, hi⟩ | ⟨_, _, rfl⟩
    · exact exec_responses hi
    · rfl
  | keyw n => cases h; rfl
  | din n => cases h; rfl

/-- An accepted write is answered `OKAY`, whatever the result of a command (20_memory.md R61). -/
theorem serve_write_responses {off : Offset} {size d : Nat} {target : WriteTarget} {s t : State}
    (hw : writeAt off size = .ok target) (h : serve (.write off size d) s = .next t) :
    t.responses = s.responses ++ [.write .okay] := by
  rw [serve_write_of_ok hw] at h
  obtain ⟨u, hu, rfl⟩ := onNext_cases h
  simp [applyWrite_responses hu]

/-- Settles O37: the model's tests are the numbers of R66 and R67, for a read and for a write. -/
theorem refusedTransactionsChangeNothing : Obligations.RefusedTransactionsChangeNothing := by
  intro s off size d rest
  have hread : (∃ v, s.engine.readAt off size = .ok v) ↔ ¬ ReadRefused off size := exists_readAt_iff
  have hwrite : (∃ t, writeAt off size = .ok t) ↔ ¬ WriteRefused off size := exists_writeAt_iff
  refine ⟨fun hp => ?_, fun hp => ?_⟩
  · rw [step_read hp]
    rcases readResponse_cases s.engine off size with ⟨v, hv, hresp⟩ | ⟨r, hr, hresp⟩
    · exact ⟨fun hbad => absurd hbad (hread.mp ⟨v, hv⟩), fun _ => ⟨_, v, rfl, by rw [hresp]⟩⟩
    · refine ⟨fun _ => by rw [hresp], fun hok => ?_⟩
      obtain ⟨v, hv⟩ := hread.mpr hok
      cases hr.symm.trans hv
  · rw [step_serve hp]
    cases hw : writeAt off size with
    | ok target =>
      obtain ⟨t, ht⟩ := serve_total (.write off size d) { s with pending := rest }
      exact ⟨fun hbad => absurd hbad (hwrite.mp ⟨target, hw⟩),
        fun _ => ⟨t, ht, (serve_write_responses hw ht :)⟩⟩
    | error r =>
      refine ⟨fun _ => serve_write_of_error hw d _, fun hok => ?_⟩
      obtain ⟨target, ht⟩ := hwrite.mpr hok
      cases hw.symm.trans ht

/-! ### The window in the platform's address space -/

/-- `BASE` is aligned to the window's size (20_memory.md R62). -/
theorem base_mod_window : Config.BASE % 0x2000 = 0 := Nat.mul_mod_right _ _

/-- Settles O41. -/
theorem windowOffsetIsLowAddressBits : Obligations.WindowOffsetIsLowAddressBits := by
  refine ⟨base_mod_window, fun addr => ?_⟩
  have hbase := base_mod_window
  unfold offsetOfAddress Config.WINDOW_BYTES
  split
  case isTrue hin =>
    refine ⟨fun o ho => ?_, by simp; omega⟩
    cases ho
    rw [offset_toNat_ofNat (by omega)]
    omega
  case isFalse hout => exact ⟨by simp, by simp; omega⟩

/-! ### Steps and runs -/

theorem step_total (s : State) : ∃ t, step s = .next t := by
  cases hp : s.pending with
  | nil => exact ⟨s, by simp [step, takeEvent, hp]⟩
  | cons ev rest =>
    cases ev with
    | reset => exact ⟨{ s.clear with pending := rest }, by simp [step, takeEvent, hp]⟩
    | serve tr =>
      rw [step_serve hp]
      exact serve_total tr _

theorem run_zero (s : State) : run 0 s = .next s := rfl

theorem run_succ {s t : State} (h : step s = .next t) (n : Nat) : run (n + 1) s = run n t := by
  have hcore : Sys2Proof.core.step s = .next t := h
  simp only [run, Host.Core.run, hcore]
  rfl

theorem safeRun (s : State) : SafeRun s := by
  intro n
  induction n generalizing s with
  | zero => exact ⟨s, run_zero s⟩
  | succ n ih =>
    obtain ⟨t, ht⟩ := step_total s
    rw [run_succ ht]
    exact ih t

/-- Settles O44. -/
theorem noRunEverStops : Obligations.NoRunEverStops := ⟨step_total, safeRun⟩

/-! ### The order of service -/

/-- The state with other events pending. -/
def State.withPending (p : List Event) (s : State) : State := { s with pending := p }

theorem onNext_ite (f : State → State) (c : Prop) [Decidable c]
    (x y : Host.Outcome State Fault Refusal) :
    onNext f (if c then x else y) = if c then onNext f x else onNext f y := apply_ite ..

theorem exec_withPending (i : Instr) (p : List Event) (s : State) :
    exec i (s.withPending p) = onNext (State.withPending p) (exec i s) := by
  cases i with
  | ksched len => simp only [exec, execKsched, onNext_ite]; rfl
  | enc => simp only [exec, execEnc, onNext_ite]; rfl
  | dec => simp only [exec, execDec, onNext_ite]; rfl
  | zeroize => rfl

theorem applyWrite_withPending (target : WriteTarget) (v : Word) (p : List Event) (s : State) :
    applyWrite target v (s.withPending p) = onNext (State.withPending p) (applyWrite target v s) := by
  cases target with
  | cmd =>
    simp only [applyWrite]
    cases hd : decode v with
    | ok i => rw [runCommand_of_ok hd, runCommand_of_ok hd, exec_withPending]
    | error r => rw [runCommand_of_error hd, runCommand_of_error hd]; rfl
  | keyw n => rfl
  | din n => rfl

/-- The service of a transaction neither sees nor changes what is pending. -/
theorem serve_withPending {tr : Transaction} {s t : State} (h : serve tr s = .next t)
    (p : List Event) : serve tr (s.withPending p) = .next (t.withPending p) := by
  cases tr with
  | read off size => cases h; rfl
  | write off size d =>
    cases hw : writeAt off size with
    | error r =>
      rw [serve_write_of_error hw] at h ⊢
      cases h
      rfl
    | ok target =>
      rw [serve_write_of_ok hw] at h ⊢
      obtain ⟨u, hu, rfl⟩ := onNext_cases h
      rw [applyWrite_withPending, hu]
      rfl

theorem issue_withPending (ev : Event) (p : List Event) (s : State) :
    issue ev (s.withPending p) = (issue ev s).withPending p := by
  cases ev with
  | reset => rfl
  | serve tr =>
    obtain ⟨t, ht⟩ := serve_total tr s
    rw [issue_serve ht, issue_serve (serve_withPending ht p)]

@[simp] theorem issue_pending (ev : Event) (s : State) : (issue ev s).pending = s.pending := by
  have hframe : issue ev s = (issue ev s).withPending s.pending := issue_withPending ev s.pending s
  rw [hframe]
  rfl

/-- A step issues the oldest pending event. -/
theorem step_withPending_cons (ev : Event) (p : List Event) (s : State) :
    step (s.withPending (ev :: p)) = .next ((issue ev s).withPending p) := by
  obtain ⟨t, ht⟩ := step_total (s.withPending (ev :: p))
  have hissue : issue ev (s.withPending p) = t := by
    have ht' : step { s.withPending p with pending := ev :: (s.withPending p).pending } = .next t := ht
    simp only [issue, ht']
  rw [ht, ← hissue, issue_withPending]

/-- By induction on the events placed before those already pending. -/
theorem run_withPending_append (evs : List Event) (s : State) :
    run evs.length (s.withPending (evs ++ s.pending)) = .next (issueAll evs s) := by
  induction evs generalizing s with
  | nil => rfl
  | cons ev evs ih =>
    rw [List.length_cons, List.cons_append, run_succ (step_withPending_cons ev _ s), issueAll_cons]
    simpa using ih (issue ev s)

theorem issueAll_append (a b : List Event) (s : State) :
    issueAll (a ++ b) s = issueAll b (issueAll a s) := List.foldl_append

/-- Settles O49. -/
theorem eventsServedInOrder : Obligations.EventsServedInOrder :=
  ⟨fun e evs rest rs => run_withPending_append evs ⟨e, rest, rs⟩, issueAll_append⟩

/-! ### What an observer learns -/

theorem observed_read (e : Engine) (off : Offset) (size : Nat) :
    observed e [.serve (.read off size)] = [e.readResponse off size] := by
  simp [observed]

/-- The response to a read at a register's offset determines the value read. -/
theorem readReg_eq_of_readResponse_eq {a b : Engine} {r : Reg}
    (h : a.readResponse r.offset 4 = b.readResponse r.offset 4) : a.readReg r = b.readReg r := by
  rw [readResponse_offset, readResponse_offset] at h
  cases ha : a.readReg r <;> cases hb : b.readReg r <;> simp_all

/-- The readable registers are the whole engine state: every array is read entry by entry, and `STATUS`
shows `ERR` and `SVALID` (10_state.md R20, R37). -/
theorem Engine.eq_of_readReg {a b : Engine} (h : ∀ r, a.readReg r = b.readReg r) : a = b := by
  have hstatus : a.status = b.status := Option.some.inj (h .status)
  obtain ⟨haerr, hasvalid, _⟩ := status_fields a
  obtain ⟨hberr, hbsvalid, _⟩ := status_fields b
  have hsboxkey : a.sboxkey = b.sboxkey := Vec.ext_get fun n => Option.some.inj (h (.sboxkey n))
  have hsubkey : a.subkey = b.subkey := Vec.ext_get fun n => Option.some.inj (h (.subkey n))
  have hxsbox : a.xsbox = b.xsbox := Vec.ext_get fun n => Option.some.inj (h (.xsbox n))
  apply Engine.eq_of_fields
  · exact Vec.ext_get fun n => Option.some.inj (h (.keyw n))
  · exact Vec.ext_get fun n => Option.some.inj (h (.din n))
  · exact Vec.ext_get fun n => Option.some.inj (h (.dout n))
  · simp [Engine.schedule, hsboxkey, hsubkey, hxsbox]
  · rw [← hasvalid, hstatus, hbsvalid]
  · rw [← haerr, hstatus, hberr]

/-- Settles O50: one read per register tells two different engines apart. -/
theorem observationDeterminesState : Obligations.ObservationDeterminesState := by
  intro a b
  refine ⟨fun h => Engine.eq_of_readReg fun r => ?_, fun h ts => by rw [h]⟩
  have hread := h [.read r.offset 4]
  simp only [List.map, observed_read, List.cons.injEq, and_true] at hread
  exact readReg_eq_of_readResponse_eq hread

end Sys2Proof.Machine
end

section
/-!
PROOFS. The statements on command words (30_encoding.md). A word is its three fields; the decoder and the
encoder are each characterised by the fields, and so by each other: a word decodes to a command exactly
when the command is well formed and the word is its encoding. The inverse laws are the two directions of
that; the opcode map and the illegal words follow from it and from the legal words in fields.

`Elab.async` is off here as in the proofs before.
-/

set_option Elab.async false

namespace Sys2Proof

/-! ### A word is its three fields -/

theorem opField_toNat (w : Word) : (opField w).toNat = w.toNat % 256 := by
  simp [opField]

theorem lenField_toNat (w : Word) : (lenField w).toNat = w.toNat / 256 % 256 := by
  simp [lenField, Nat.shiftRight_eq_div_pow]

theorem rsvField_toNat (w : Word) : (rsvField w).toNat = w.toNat / 65536 := by
  simp [rsvField, Nat.shiftRight_eq_div_pow]
  omega

/-- The fields `OP`, `LEN` and `RSV` cover the word (30_encoding.md R90). -/
theorem word_eq_iff_fields {a b : Word} :
    a = b ↔ rsvField a = rsvField b ∧ opField a = opField b ∧ lenField a = lenField b := by
  simp only [BitVec.toNat_eq, rsvField_toNat, opField_toNat, lenField_toNat]
  omega

@[simp] theorem opField_and (a b : Word) : opField (a &&& b) = opField a &&& opField b :=
  BitVec.extractLsb'_and

@[simp] theorem rsvField_and (a b : Word) : rsvField (a &&& b) = rsvField a &&& rsvField b :=
  BitVec.extractLsb'_and

@[simp] theorem opField_or (a b : Word) : opField (a ||| b) = opField a ||| opField b :=
  BitVec.extractLsb'_or

@[simp] theorem lenField_or (a b : Word) : lenField (a ||| b) = lenField a ||| lenField b :=
  BitVec.extractLsb'_or

@[simp] theorem rsvField_or (a b : Word) : rsvField (a ||| b) = rsvField a ||| rsvField b :=
  BitVec.extractLsb'_or

/-! ### The fields of a command -/

/-- The value of the field `OP` that selects the command (30_encoding.md R95). -/
def Instr.opByte : Instr → Byte
  | .ksched _ => 0x01
  | .enc => 0x02
  | .dec => 0x03
  | .zeroize => 0x04

/-- The value of the field `LEN`: the key length of `KSCHED`, 0 in every other command
(30_encoding.md R90, R94). -/
def Instr.lenByte : Instr → Byte
  | .ksched len => BitVec.ofNat 8 len
  | .enc => 0
  | .dec => 0
  | .zeroize => 0

/-- The word bears the fields of the command, `RSV` zero. -/
def HasFields (w : Word) (i : Instr) : Prop :=
  rsvField w = 0 ∧ opField w = i.opByte ∧ lenField w = i.lenByte

/-- The field `LEN` is a well-formed key length, whatever the word. -/
theorem wf_ksched_lenField (w : Word) : (Instr.ksched (lenField w).toNat).wf = true :=
  decide_eq_true (lenField w).isLt

theorem hasFields_ksched_lenField {w : Word} (hrsv : rsvField w = 0) (hop : opField w = 0x01) :
    HasFields w (.ksched (lenField w).toNat) := ⟨hrsv, hop, by simp [Instr.lenByte]⟩

/-- `LEN` in place: eight bits of key length, shifted to bits 15:8. -/
theorem fields_shifted_len {len : Nat} (h : len < 256) :
    rsvField (BitVec.ofNat 32 len <<< 8) = 0 ∧ opField (BitVec.ofNat 32 len <<< 8) = 0 ∧
      lenField (BitVec.ofNat 32 len <<< 8) = BitVec.ofNat 8 len := by
  have hval : (BitVec.ofNat 32 len <<< 8).toNat = len * 256 := by
    simp [Nat.shiftLeft_eq]
    omega
  simp only [BitVec.toNat_eq, rsvField_toNat, opField_toNat, lenField_toNat, hval,
    BitVec.ofNat_eq_ofNat, BitVec.toNat_ofNat]
  omega

theorem hasFields_encode {i : Instr} (h : i.wf = true) : HasFields (encode i) i := by
  cases i with
  | ksched len =>
    obtain ⟨hrsv, hop, hlen⟩ := fields_shifted_len (len := len) (by simpa [Instr.wf] using h)
    refine ⟨?_, ?_, ?_⟩
    · rw [encode, rsvField_or, hrsv]; rfl
    · rw [encode, opField_or, hop]; rfl
    · rw [encode, lenField_or, hlen]; exact BitVec.zero_or
  | enc => exact ⟨rfl, rfl, rfl⟩
  | dec => exact ⟨rfl, rfl, rfl⟩
  | zeroize => exact ⟨rfl, rfl, rfl⟩

/-- The encoding of a well-formed command is the one word with the command's fields. -/
theorem encode_eq_iff {i : Instr} (h : i.wf = true) {w : Word} : encode i = w ↔ HasFields w i := by
  obtain ⟨hrsv, hop, hlen⟩ := hasFields_encode h
  rw [word_eq_iff_fields, hrsv, hop, hlen]
  exact and_congr eq_comm (and_congr eq_comm eq_comm)

/-! ### The decoder -/

theorem decodePlain_eq_ok_iff {i j : Instr} {len : Byte} :
    decodePlain i len = .ok j ↔ len = 0 ∧ i = j := by
  unfold decodePlain
  split <;> simp_all

/-- The decoder accepts a word as a command exactly when the word bears the command's fields. -/
theorem decode_eq_ok_iff_hasFields {w : Word} {i : Instr} :
    decode w = .ok i ↔ i.wf = true ∧ HasFields w i := by
  constructor
  · intro h
    unfold decode at h
    split_ifs at h with hrsv h1 h2 h3 h4
    all_goals rw [not_not] at hrsv
    · cases h
      exact ⟨wf_ksched_lenField w, hasFields_ksched_lenField hrsv h1⟩
    all_goals
      obtain ⟨hlen, rfl⟩ := decodePlain_eq_ok_iff.mp h
      exact ⟨rfl, hrsv, ‹_›, hlen⟩
  · rintro ⟨hwf, hrsv, hop, hlen⟩
    cases i with
    | ksched len =>
      have hlt : len < 256 := by simpa [Instr.wf] using hwf
      have hval : (lenField w).toNat = len := BitVec.toNat_eq_nat.mpr ⟨hlt, hlen⟩
      simp [decode, hrsv, hop, hval, Instr.opByte]
    | enc => simp [decode, decodePlain, hrsv, hop, hlen, Instr.opByte, Instr.lenByte]
    | dec => simp [decode, decodePlain, hrsv, hop, hlen, Instr.opByte, Instr.lenByte]
    | zeroize => simp [decode, decodePlain, hrsv, hop, hlen, Instr.opByte, Instr.lenByte]

/-- The decoder and the encoder are each other's inverse on the well-formed commands. -/
theorem decode_eq_ok_iff {w : Word} {i : Instr} :
    decode w = .ok i ↔ i.wf = true ∧ encode i = w := by
  rw [decode_eq_ok_iff_hasFields]
  exact and_congr_right fun hwf => (encode_eq_iff hwf).symm

/-- The legal words in fields: `KSCHED` with any `LEN`, the other commands with `LEN` zero
(30_encoding.md R90, R95). -/
theorem exists_decode_iff {w : Word} : (∃ i, decode w = .ok i) ↔ rsvField w = 0 ∧
    (opField w = 0x01 ∨
      ((opField w = 0x02 ∨ opField w = 0x03 ∨ opField w = 0x04) ∧ lenField w = 0)) := by
  simp only [decode_eq_ok_iff_hasFields]
  constructor
  · rintro ⟨i, _, hrsv, hop, hlen⟩
    cases i with
    | ksched len => exact ⟨hrsv, .inl hop⟩
    | enc => exact ⟨hrsv, .inr ⟨.inl hop, hlen⟩⟩
    | dec => exact ⟨hrsv, .inr ⟨.inr (.inl hop), hlen⟩⟩
    | zeroize => exact ⟨hrsv, .inr ⟨.inr (.inr hop), hlen⟩⟩
  · rintro ⟨hrsv, hop | ⟨hop | hop | hop, hlen⟩⟩
    · exact ⟨_, wf_ksched_lenField w, hasFields_ksched_lenField hrsv hop⟩
    · exact ⟨.enc, rfl, hrsv, hop, hlen⟩
    · exact ⟨.dec, rfl, hrsv, hop, hlen⟩
    · exact ⟨.zeroize, rfl, hrsv, hop, hlen⟩

/-- Settles O1. -/
theorem decodeInvertsEncode : Obligations.DecodeInvertsEncode :=
  fun _ hwf => decode_eq_ok_iff.mpr ⟨hwf, rfl⟩

/-- Settles O2. -/
theorem encodeInvertsDecode : Obligations.EncodeInvertsDecode :=
  fun _ _ h => decode_eq_ok_iff.mp h

/-- Settles O3: only the encodings are computed. -/
theorem workedEncodingsDecode : Obligations.WorkedEncodingsDecode := by
  intro p hp
  suffices h : p.2.wf = true ∧ encode p.2 = p.1 from ⟨decode_eq_ok_iff.mpr h, h.2⟩
  revert p
  decide

/-! ### The opcode map -/

/-- Every command has a row of its mnemonic. -/
theorem exists_opcodeRow (i : Instr) : ∃ r ∈ opcodeMap, r.mnemonic = i.mnemonic := by
  cases i <;> simp [opcodeMap, Instr.mnemonic]

/-- The encoding of a command is selected by the row of its mnemonic alone. -/
theorem selects_encode_iff {i : Instr} (hwf : i.wf = true) {r : OpcodeRow} (hr : r ∈ opcodeMap) :
    r.selects (encode i) = true ↔ r.mnemonic = i.mnemonic := by
  cases i with
  | ksched len => exact Laws.EncodingSelectsRow.ksched len hwf r hr
  | enc => exact Laws.EncodingSelectsRow.enc hwf r hr
  | dec => exact Laws.EncodingSelectsRow.dec hwf r hr
  | zeroize => exact Laws.EncodingSelectsRow.zeroize hwf r hr

/-- The mask of `KSCHED` leaves `LEN` free and fixes the other two fields. -/
theorem fields_of_ksched_mask {w : Word} (h : w &&& 0xFFFF00FF = 0x00000001) :
    rsvField w = 0 ∧ opField w = 0x01 := by
  obtain ⟨hrsv, hop, _⟩ := word_eq_iff_fields.mp h
  have hrsv' : rsvField w &&& BitVec.allOnes 16 = 0 := (rsvField_and ..).symm.trans hrsv
  have hop' : opField w &&& BitVec.allOnes 8 = 0x01 := (opField_and ..).symm.trans hop
  rw [BitVec.and_allOnes] at hrsv' hop'
  exact ⟨hrsv', hop'⟩

/-- A mask of ones leaves no bit free: the one word its row selects is the row's pattern. -/
theorem eq_of_full_mask {w p : Word} (h : w &&& 0xFFFFFFFF = p) : p = w :=
  h.symm.trans BitVec.and_allOnes

/-- A word that a row selects decodes. -/
theorem exists_decode_of_selects {w : Word} {r : OpcodeRow} (hr : r ∈ opcodeMap)
    (h : r.selects w = true) : ∃ i, decode w = .ok i := by
  rw [OpcodeRow.selects, beq_iff_eq] at h
  simp only [opcodeMap, List.mem_cons, List.not_mem_nil, or_false] at hr
  rcases hr with rfl | rfl | rfl | rfl
  · obtain ⟨hrsv, hop⟩ := fields_of_ksched_mask h
    exact exists_decode_iff.mpr ⟨hrsv, .inl hop⟩
  · exact ⟨.enc, decode_eq_ok_iff.mpr ⟨rfl, eq_of_full_mask h⟩⟩
  · exact ⟨.dec, decode_eq_ok_iff.mpr ⟨rfl, eq_of_full_mask h⟩⟩
  · exact ⟨.zeroize, decode_eq_ok_iff.mpr ⟨rfl, eq_of_full_mask h⟩⟩

/-- Settles O4. -/
theorem decodeFollowsOpcodeMap : Obligations.DecodeFollowsOpcodeMap := by
  intro w
  have hrow (i : Instr) (hd : decode w = .ok i) (r : OpcodeRow) (hr : r ∈ opcodeMap) :
      r.selects w = true ↔ r.mnemonic = i.mnemonic := by
    obtain ⟨hwf, rfl⟩ := decode_eq_ok_iff.mp hd
    exact selects_encode_iff hwf hr
  refine ⟨⟨fun ⟨i, hd⟩ => ?_, fun ⟨r, hr, hsel⟩ => exists_decode_of_selects hr hsel⟩, hrow⟩
  obtain ⟨r, hr, hname⟩ := exists_opcodeRow i
  exact ⟨r, hr, (hrow i hd r hr).mpr hname⟩

/-! ### Illegal words -/

theorem exists_decode_error_iff_not_ok {w : Word} :
    (∃ r, decode w = .error r) ↔ ¬ ∃ i, decode w = .ok i := by
  cases decode w <;> simp

/-- The illegal words in fields, in the cases of 30_encoding.md R100. -/
theorem exists_decode_error_iff {w : Word} : (∃ r, decode w = .error r) ↔
    (rsvField w ≠ 0 ∨ opField w = 0x00 ∨ 0x05 ≤ (opField w).toNat ∨
      ((opField w = 0x02 ∨ opField w = 0x03 ∨ opField w = 0x04) ∧ lenField w ≠ 0)) := by
  rw [exists_decode_error_iff_not_ok, exists_decode_iff]
  bv_omega

/-- A step that serves the write of an illegal word to `CMD`. -/
theorem step_illegalWord {s : Machine.State} {w : Word} {r : IllegalWord}
    {rest : List Machine.Event} (hd : decode w = .error r)
    (hp : s.pending = .serve (.write 0x0000 4 w.toNat) :: rest) :
    Machine.step s = .next ⟨{ s.engine with err := 3 }, rest, s.responses ++ [.write .okay]⟩ := by
  have hw : Machine.writeAt 0x0000 4 = .ok .cmd := Machine.writeAt_eq_cmd_iff.mpr ⟨rfl, rfl⟩
  rw [Machine.step_serve hp, Machine.serve_write_cmd hw, BitVec.ofNat_toNat, BitVec.setWidth_eq,
    Machine.runCommand_of_error hd]
  rfl

/-- Settles O5. -/
theorem illegalWordWritesOnlyErr : Obligations.IllegalWordWritesOnlyErr := by
  refine ⟨fun _ => exists_decode_error_iff, fun _ _ _ _ => step_illegalWord, fun w hw => ?_⟩
  simp only [List.mem_cons, List.not_mem_nil, or_false] at hw
  rcases hw with rfl | rfl | rfl | rfl | rfl | rfl <;> exact ⟨_, rfl⟩

end Sys2Proof
end

section
/-!
PROOFS. The statements on words (40_gf256_arithmetic.md section 1). A rotate is known by where each bit of
its result comes from, a word by its four byte lanes; the laws of the rotates, and that assembling a word
and taking its lanes are inverse, are read off these two.

`Elab.async` is off here as in the proofs before.
-/

set_option Elab.async false

namespace Sys2Proof.Machine

/-! ### Rotates -/

/-- Bit `i` of a word rotated left comes from `n` places below, around the end. -/
theorem getLsbD_rotl32 (x : Word) (n : Nat) {i : Nat} (hi : i < 32) :
    (rotl32 x n).getLsbD i = x.getLsbD ((i + (32 - n % 32)) % 32) := by
  unfold rotl32
  split_ifs with h
  · rw [h, Nat.add_mod_right, Nat.mod_eq_of_lt hi]
  · rcases lt_or_ge i (n % 32) with hlt | hge
    · simp [hi, hlt, show (i + (32 - n % 32)) % 32 = 32 - n % 32 + i by omega]
    · have hout : 32 ≤ 32 - n % 32 + i := by omega
      simp [-BitVec.getLsbD_eq_getElem, hi, not_lt.mpr hge, BitVec.getLsbD_of_ge x _ hout,
        show (i + (32 - n % 32)) % 32 = i - n % 32 by omega]

/-- Bit `i` of a word rotated right comes from `n` places above, around the end. -/
theorem getLsbD_rotr32 (x : Word) (n : Nat) {i : Nat} (hi : i < 32) :
    (rotr32 x n).getLsbD i = x.getLsbD ((i + n % 32) % 32) := by
  unfold rotr32
  split_ifs with h
  · rw [h, Nat.add_zero, Nat.mod_eq_of_lt hi]
  · rcases lt_or_ge i (32 - n % 32) with hlt | hge
    · simp [hlt, show (i + n % 32) % 32 = n % 32 + i by omega]
    · have hout : 32 ≤ n % 32 + i := by omega
      simp [-BitVec.getLsbD_eq_getElem, hi, not_lt.mpr hge, BitVec.getLsbD_of_ge x _ hout,
        show (i + n % 32) % 32 = i - (32 - n % 32) by omega]

@[simp] theorem rotl32_mod (x : Word) (n : Nat) : rotl32 x (n % 32) = rotl32 x n := by
  simp only [rotl32, Nat.mod_mod]

@[simp] theorem rotr32_mod (x : Word) (n : Nat) : rotr32 x (n % 32) = rotr32 x n := by
  simp only [rotr32, Nat.mod_mod]

theorem rotr32_eq_rotl32 (x : Word) (n : Nat) : rotr32 x n = rotl32 x ((32 - n % 32) % 32) := by
  refine BitVec.eq_of_getLsbD_eq fun i hi => ?_
  rw [getLsbD_rotr32 x n hi, getLsbD_rotl32 x _ hi]
  congr 1
  omega

theorem rotr32_rotl32 (x : Word) (n : Nat) : rotr32 (rotl32 x n) n = x := by
  refine BitVec.eq_of_getLsbD_eq fun i hi => ?_
  rw [getLsbD_rotr32 _ n hi, getLsbD_rotl32 x n (Nat.mod_lt _ (by decide))]
  congr 1
  omega

theorem rotl32_rotr32 (x : Word) (n : Nat) : rotl32 (rotr32 x n) n = x := by
  refine BitVec.eq_of_getLsbD_eq fun i hi => ?_
  rw [getLsbD_rotl32 _ n hi, getLsbD_rotr32 x n (Nat.mod_lt _ (by decide))]
  congr 1
  omega

/-- Settles O6. -/
theorem rotatesWrapModulo32 : Obligations.RotatesWrapModulo32 := by
  refine ⟨fun x n => ⟨(rotl32_mod x n).symm, (rotr32_mod x n).symm, rotr32_eq_rotl32 x n,
    rotr32_rotl32 x n, rotl32_rotr32 x n⟩, fun x => ⟨rfl, rfl, rfl⟩, ?_⟩
  decide

/-! ### Words and their byte lanes -/

theorem getLsbD_lane (j : Fin 4) (x : Word) {i : Nat} (hi : i < 8) :
    (lane j x).getLsbD i = x.getLsbD (8 * j.val + i) := by
  simp [lane, hi]

@[simp] theorem lane_or (j : Fin 4) (x y : Word) : lane j (x ||| y) = lane j x ||| lane j y :=
  BitVec.extractLsb'_or

@[simp] theorem lane_xor (j : Fin 4) (x y : Word) : lane j (x ^^^ y) = lane j x ^^^ lane j y :=
  BitVec.extractLsb'_xor

@[simp] theorem lane_zero (j : Fin 4) : lane j 0 = 0 := by revert j; decide

/-- A word is known by its lanes. -/
theorem eq_of_lanes {x y : Word} (h : ∀ j, lane j x = lane j y) : x = y := by
  refine BitVec.eq_of_getLsbD_eq fun i hi => ?_
  have hbit : i % 8 < 8 := Nat.mod_lt _ (by decide)
  have hlane := congrArg (·.getLsbD (i % 8)) (h ⟨i / 8, by omega⟩)
  simpa only [getLsbD_lane _ _ hbit, Nat.div_add_mod] using hlane

/-- A byte moved up to lane `k` stands there alone. -/
theorem lane_zext_moved (j k : Fin 4) (y : Byte) :
    lane j (zext y <<< (8 * k.val)) = if j = k then y else 0 := by
  refine BitVec.eq_of_getLsbD_eq fun i hi => ?_
  rw [getLsbD_lane _ _ hi]
  by_cases hjk : j = k
  · have hin : 8 * k.val + i < 32 := by omega
    simp [zext, hjk, hin, hi]
  · rw [if_neg hjk]
    rcases lt_or_gt_of_ne (Fin.val_ne_of_ne hjk) with hlt | hgt
    · simp [zext, show 8 * j.val + i < 8 * k.val by omega]
    · have hout : 8 ≤ 8 * j.val + i - 8 * k.val := by omega
      simp [zext, BitVec.getLsbD_of_ge y _ hout]

@[simp] theorem lane_zext (j : Fin 4) (y : Byte) : lane j (zext y) = if j = 0 then y else 0 := by
  simpa using lane_zext_moved j 0 y

@[simp] theorem lane_zext_shiftLeft_8 (j : Fin 4) (y : Byte) :
    lane j (zext y <<< 8) = if j = 1 then y else 0 := lane_zext_moved j 1 y

@[simp] theorem lane_zext_shiftLeft_16 (j : Fin 4) (y : Byte) :
    lane j (zext y <<< 16) = if j = 2 then y else 0 := lane_zext_moved j 2 y

@[simp] theorem lane_zext_shiftLeft_24 (j : Fin 4) (y : Byte) :
    lane j (zext y <<< 24) = if j = 3 then y else 0 := lane_zext_moved j 3 y

/-- Each lane of a word of bytes is the byte that `word` puts there. -/
theorem lane_word (j : Fin 4) (y0 y1 y2 y3 : Byte) :
    lane j (word y0 y1 y2 y3) = ![y0, y1, y2, y3] j := by
  fin_cases j <;> simp [word]

theorem word_lanes (x : Word) : word (lane 0 x) (lane 1 x) (lane 2 x) (lane 3 x) = x := by
  refine eq_of_lanes fun j => ?_
  rw [lane_word]
  fin_cases j <;> rfl

/-- Settles O7. -/
theorem wordsAndLanesInverse : Obligations.WordsAndLanesInverse :=
  ⟨word_lanes, fun y0 y1 y2 y3 => ⟨lane_word 0 y0 y1 y2 y3, lane_word 1 y0 y1 y2 y3,
    lane_word 2 y0 y1 y2 y3, lane_word 3 y0 y1 y2 y3⟩⟩

/-- `word` is linear over GF(2) in its four bytes. -/
theorem word_xor (a0 a1 a2 a3 b0 b1 b2 b3 : Byte) :
    word (a0 ^^^ b0) (a1 ^^^ b1) (a2 ^^^ b2) (a3 ^^^ b3) = word a0 a1 a2 a3 ^^^ word b0 b1 b2 b3 := by
  refine eq_of_lanes fun j => ?_
  rw [lane_xor, lane_word, lane_word, lane_word]
  fin_cases j <;> rfl

/-- The bytes of `word` do not overlap, so its `|` is a sum. -/
theorem word_eq_xor (y0 y1 y2 y3 : Byte) :
    word y0 y1 y2 y3 = zext y0 ^^^ (zext y1 <<< 8) ^^^ (zext y2 <<< 16) ^^^ (zext y3 <<< 24) := by
  refine eq_of_lanes fun j => ?_
  rw [lane_word]
  fin_cases j <;> simp

/-- The word moved up one byte. -/
theorem shiftLeft_8_eq_word (x : Word) : x <<< 8 = word 0 (lane 0 x) (lane 1 x) (lane 2 x) := by
  conv_lhs => rw [← word_lanes x]
  simp [word_eq_xor, BitVec.shiftLeft_xor_distrib, ← BitVec.shiftLeft_add, zext]

end Sys2Proof.Machine
end

section
/-!
PROOFS. The statements on the two fields and on the Reed-Solomon steps (40_gf256_arithmetic.md sections 2
to 4). All the functions are linear over GF(2), `gfmul` in each of its factors; and two linear functions
that agree on the powers of two agree everywhere. So each equation between them is checked on the bits of
one byte, or of one word, and linearity carries it to every argument.

`Elab.async` is off here as in the proofs before.
-/

set_option Elab.async false

namespace Sys2Proof.Machine

/-! ### Functions linear over GF(2) -/

/-- `f` is linear over GF(2): the sum of the fields is `^` (40_gf256_arithmetic.md R124). -/
def XorLinear {m n : Nat} (f : BitVec m → BitVec n) : Prop := ∀ x y, f (x ^^^ y) = f x ^^^ f y

namespace XorLinear

variable {m n k : Nat} {f g : BitVec m → BitVec n}

theorem map_zero (hf : XorLinear f) : f 0 = 0 := by
  have h := hf 0 0
  rwa [BitVec.xor_self, BitVec.xor_self] at h

theorem id : XorLinear fun x : BitVec m => x := fun _ _ => rfl

theorem xor (hf : XorLinear f) (hg : XorLinear g) : XorLinear fun x => f x ^^^ g x := fun x y => by
  simp only [hf x y, hg x y]
  ac_rfl

theorem comp {h : BitVec n → BitVec k} (hh : XorLinear h) (hf : XorLinear f) :
    XorLinear fun x => h (f x) := fun x y => by
  simp only [hf x y, hh (f x) (f y)]

theorem shiftLeft (s : Nat) : XorLinear fun x : BitVec m => x <<< s :=
  fun x y => BitVec.shiftLeft_xor_distrib x y s

theorem ushiftRight (s : Nat) : XorLinear fun x : BitVec m => x >>> s :=
  fun x y => BitVec.ushiftRight_xor_distrib x y s

theorem setWidth : XorLinear fun x : BitVec m => x.setWidth n := fun _ _ => BitVec.setWidth_xor

/-- Feedback of one bit: the constant `c` is added when bit `i` is set. -/
theorem feedback (i : Nat) (hi : i < m) (c : BitVec n) :
    XorLinear fun x : BitVec m => if x &&& BitVec.twoPow m i = 0 then 0 else c := by
  have hbit (x : BitVec m) : x &&& BitVec.twoPow m i = 0 ↔ x.getLsbD i = false := by
    rw [BitVec.and_twoPow]
    have hne : BitVec.twoPow m i ≠ 0 := fun h => by
      simpa [hi] using congrArg (·.getLsbD i) h
    cases x.getLsbD i
    · simp
    · simpa using hne
  intro x y
  simp only [hbit, BitVec.getLsbD_xor]
  cases x.getLsbD i <;> cases y.getLsbD i <;> simp

/-- Two linear functions that agree on every power of two agree: the powers are a basis. -/
theorem ext (hf : XorLinear f) (hg : XorLinear g)
    (h : ∀ i : Fin m, f (BitVec.twoPow m i) = g (BitVec.twoPow m i)) (x : BitVec m) : f x = g x := by
  have hlow (k : Nat) (hk : k ≤ m) (x : BitVec m) (hx : ∀ i, k ≤ i → x.getLsbD i = false) :
      f x = g x := by
    induction k generalizing x with
    | zero =>
      have hzero : x = 0 := BitVec.eq_of_getLsbD_eq fun i _ => by simp [hx i (Nat.zero_le i)]
      rw [hzero, hf.map_zero, hg.map_zero]
    | succ k ih =>
      cases hbit : x.getLsbD k with
      | false =>
        refine ih (by omega) x fun i hi => ?_
        rcases eq_or_lt_of_le hi with rfl | hlt
        · exact hbit
        · exact hx i hlt
      | true =>
        have hrest : f (x ^^^ BitVec.twoPow m k) = g (x ^^^ BitVec.twoPow m k) := by
          refine ih (by omega) _ fun i hi => ?_
          rw [BitVec.getLsbD_xor, BitVec.getLsbD_twoPow]
          rcases eq_or_lt_of_le hi with rfl | hlt
          · simp [hbit, show k < m by omega]
          · simp [hx i hlt, hlt.ne]
        have hsplit : x = (x ^^^ BitVec.twoPow m k) ^^^ BitVec.twoPow m k := by
          rw [BitVec.xor_assoc, BitVec.xor_self, BitVec.xor_zero]
        rw [hsplit, hf, hg, hrest, h ⟨k, hk⟩]
  exact hlow m le_rfl x fun i hi => BitVec.getLsbD_of_ge x i hi

end XorLinear

/-- `f` is linear over GF(2) in the pair of its arguments. -/
def XorLinear₂ {m n : Nat} (f : BitVec m → BitVec m → BitVec n) : Prop :=
  ∀ x y x' y', f (x ^^^ x') (y ^^^ y') = f x y ^^^ f x' y'

namespace XorLinear₂

variable {m n : Nat} {f g : BitVec m → BitVec m → BitVec n}

theorem left (hf : XorLinear₂ f) : XorLinear fun x => f x 0 := fun x y => by
  simpa using hf x 0 y 0

theorem right (hf : XorLinear₂ f) : XorLinear fun y => f 0 y := fun x y => by
  simpa using hf 0 x 0 y

theorem split (hf : XorLinear₂ f) (x y : BitVec m) : f x y = f x 0 ^^^ f 0 y := by
  simpa using hf x 0 0 y

theorem ext (hf : XorLinear₂ f) (hg : XorLinear₂ g)
    (hl : ∀ i : Fin m, f (BitVec.twoPow m i) 0 = g (BitVec.twoPow m i) 0)
    (hr : ∀ i : Fin m, f 0 (BitVec.twoPow m i) = g 0 (BitVec.twoPow m i)) (x y : BitVec m) :
    f x y = g x y := by
  rw [hf.split, hg.split, hf.left.ext hg.left hl x, hf.right.ext hg.right hr y]

end XorLinear₂

/-! ### Multiplication in the two fields -/

/-- What a turn of `gfmul` gathers (40_gf256_arithmetic.md R124). -/
def gfGather (r u v : Nat) : Nat := if v % 2 = 1 then r ^^^ u else r

/-- `u` times 2, reduced (40_gf256_arithmetic.md R124). -/
def gfDouble (p u : Nat) : Nat := if (u <<< 1) &&& 0x100 ≠ 0 then (u <<< 1) ^^^ p else u <<< 1

theorem gfmulLoop_succ (p turns r u v : Nat) :
    gfmulLoop p (turns + 1) r u v = gfmulLoop p turns (gfGather r u v) (gfDouble p u) (v >>> 1) := rfl

theorem gfGather_eq (r u v : Nat) : gfGather r u v = r ^^^ (if v.testBit 0 then u else 0) := by
  simp only [gfGather, Nat.testBit_zero, decide_eq_true_eq]
  split_ifs <;> simp

theorem gfGather_xor_left (r r' u u' v : Nat) :
    gfGather (r ^^^ r') (u ^^^ u') v = gfGather r u v ^^^ gfGather r' u' v := by
  unfold gfGather
  split_ifs
  · ac_rfl
  · rfl

theorem gfGather_xor_right (r r' u v v' : Nat) :
    gfGather (r ^^^ r') u (v ^^^ v') = gfGather r u v ^^^ gfGather r' u v' := by
  simp only [gfGather_eq, Nat.testBit_xor]
  cases v.testBit 0 <;> cases v'.testBit 0 <;> simp [Nat.xor_comm, Nat.xor_left_comm]

theorem gfDouble_eq (p u : Nat) : gfDouble p u = (u <<< 1) ^^^ (if u.testBit 7 then p else 0) := by
  have hbit : (u <<< 1) &&& 0x100 ≠ 0 ↔ u.testBit 7 = true := by
    rw [show 0x100 = 2 ^ 8 from rfl, Nat.and_two_pow, Nat.testBit_shiftLeft]
    cases u.testBit 7 <;> simp
  simp only [gfDouble, hbit]
  split_ifs <;> simp

theorem gfDouble_xor (p u u' : Nat) : gfDouble p (u ^^^ u') = gfDouble p u ^^^ gfDouble p u' := by
  simp only [gfDouble_eq, Nat.testBit_xor, Nat.shiftLeft_xor_distrib]
  cases u.testBit 7 <;> cases u'.testBit 7 <;> simp [Nat.xor_comm, Nat.xor_left_comm]

theorem gfmulLoop_xor_left (p turns r r' u u' v : Nat) :
    gfmulLoop p turns (r ^^^ r') (u ^^^ u') v =
      gfmulLoop p turns r u v ^^^ gfmulLoop p turns r' u' v := by
  induction turns generalizing r r' u u' v with
  | zero => rfl
  | succ turns ih => simp only [gfmulLoop_succ, gfGather_xor_left, gfDouble_xor, ih]

theorem gfmulLoop_xor_right (p turns r r' u v v' : Nat) :
    gfmulLoop p turns (r ^^^ r') u (v ^^^ v') =
      gfmulLoop p turns r u v ^^^ gfmulLoop p turns r' u v' := by
  induction turns generalizing r r' u v v' with
  | zero => rfl
  | succ turns ih => simp only [gfmulLoop_succ, gfGather_xor_right, Nat.shiftRight_xor_distrib, ih]

namespace XorLinear

theorem gfmul_left (v : Byte) (p : Nat) : XorLinear fun u => gfmul u v p := fun x y => by
  have h := gfmulLoop_xor_left p 8 0 0 x.toNat y.toNat v.toNat
  simp only [gfmul, BitVec.toNat_xor, ← BitVec.ofNat_xor, ← h, Nat.xor_self]

theorem gfmul_right (u : Byte) (p : Nat) : XorLinear fun v => gfmul u v p := fun x y => by
  have h := gfmulLoop_xor_right p 8 0 0 u.toNat x.toNat y.toNat
  simp only [gfmul, BitVec.toNat_xor, ← BitVec.ofNat_xor, ← h, Nat.xor_self]

theorem lfsr1 : XorLinear Machine.lfsr1 :=
  (ushiftRight 1).xor (feedback 0 (by decide) 0xB4)

theorem lfsr2 : XorLinear Machine.lfsr2 :=
  ((ushiftRight 2).xor (feedback 1 (by decide) 0xB4)).xor (feedback 0 (by decide) 0x5A)

theorem mulX : XorLinear Machine.mulX := XorLinear.id.xor lfsr2

theorem mulY : XorLinear Machine.mulY := (XorLinear.id.xor lfsr1).xor lfsr2

theorem rsG2 : XorLinear Machine.rsG2 :=
  setWidth.comp (((shiftLeft 1).comp setWidth).xor (feedback 7 (by decide) _))

theorem rsG3 : XorLinear Machine.rsG3 :=
  ((ushiftRight 1).xor (feedback 0 (by decide) 0xA6)).xor rsG2

end XorLinear

theorem gfmul_lfsr1 (x : Byte) : gfmul (lfsr1 x) 0x02 Config.MDS_GF_FDBK = x :=
  ((XorLinear.gfmul_left 0x02 _).comp XorLinear.lfsr1).ext XorLinear.id (by decide) x

theorem lfsr2_eq (x : Byte) : lfsr2 x = lfsr1 (lfsr1 x) :=
  XorLinear.lfsr2.ext (XorLinear.lfsr1.comp XorLinear.lfsr1) (by decide) x

theorem mulX_eq_gfmul (x : Byte) : mulX x = gfmul x 0x5B Config.MDS_GF_FDBK :=
  XorLinear.mulX.ext (XorLinear.gfmul_left 0x5B _) (by decide) x

theorem mulY_eq_gfmul (x : Byte) : mulY x = gfmul x 0xEF Config.MDS_GF_FDBK :=
  XorLinear.mulY.ext (XorLinear.gfmul_left 0xEF _) (by decide) x

/-- Settles O8. -/
theorem multipliersMatchMdsField : Obligations.MultipliersMatchMdsField := fun x =>
  ⟨gfmul_lfsr1 x, lfsr2_eq x, rfl, mulX_eq_gfmul x, mulY_eq_gfmul x⟩

/-! ### The Reed-Solomon remainder -/

theorem rsG2_eq_gfmul (b : Byte) : rsG2 b = gfmul b 0x02 Config.RS_GF_FDBK :=
  XorLinear.rsG2.ext (XorLinear.gfmul_left 0x02 _) (by decide) b

/-- `rsG3` without its part `rsG2` divides by `a` in the RS field. -/
theorem gfmul_rsG3_xor_rsG2 (b : Byte) : gfmul (rsG3 b ^^^ rsG2 b) 0x02 Config.RS_GF_FDBK = b :=
  ((XorLinear.gfmul_left 0x02 _).comp (XorLinear.rsG3.xor XorLinear.rsG2)).ext XorLinear.id
    (by decide) b

/-- The four bytes that the byte shifted out feeds back (40_gf256_arithmetic.md R128). -/
def rsFeedback (b : Byte) : Word := word b (rsG3 b) (rsG2 b) (rsG3 b)

theorem rsRemainder_eq (x : Word) : rsRemainder x = (x <<< 8) ^^^ rsFeedback (lane 3 x) := by
  have hreverse (s a b c d : Word) : s ^^^ a ^^^ b ^^^ c ^^^ d =
      s ^^^ (d ^^^ c ^^^ b ^^^ a) := by ac_rfl
  rw [rsFeedback, word_eq_xor]
  exact hreverse _ _ _ _ _

theorem rsRemainder_eq_word (x : Word) : rsRemainder x =
    word (lane 3 x) (lane 0 x ^^^ rsG3 (lane 3 x)) (lane 1 x ^^^ rsG2 (lane 3 x))
      (lane 2 x ^^^ rsG3 (lane 3 x)) := by
  rw [rsRemainder_eq, shiftLeft_8_eq_word, rsFeedback, ← word_xor,
    show (0 : Byte) ^^^ lane 3 x = lane 3 x from BitVec.zero_xor]

namespace XorLinear

theorem lane (j : Fin 4) : XorLinear (Machine.lane j) := lane_xor j

theorem rsFeedback : XorLinear Machine.rsFeedback := fun x y => by
  simp only [Machine.rsFeedback, rsG2 x y, rsG3 x y, word_xor]

theorem rsRemainder : XorLinear Machine.rsRemainder := by
  rw [show Machine.rsRemainder = _ from funext rsRemainder_eq]
  exact (shiftLeft 8).xor (rsFeedback.comp (lane 3))

theorem rsRemainder4 : XorLinear Machine.rsRemainder4 :=
  rsRemainder.comp (rsRemainder.comp (rsRemainder.comp rsRemainder))

end XorLinear

/-- Settles O9. -/
theorem rsRemainderByLanes : Obligations.RsRemainderByLanes := by
  refine ⟨rsRemainder_eq_word, fun b => ⟨rsG2_eq_gfmul b, gfmul_rsG3_xor_rsG2 b⟩,
    XorLinear.rsRemainder, fun x hx => ?_⟩
  rw [rsRemainder_eq, hx, XorLinear.rsFeedback.map_zero]
  exact BitVec.xor_zero

/-! ### The Reed-Solomon code -/

theorem rsEncode_linear : XorLinear₂ rsEncode := fun k0 k1 m0 m1 => by
  simp only [rsEncode, XorLinear.rsRemainder4 _ _]
  ac_rfl

/-- Settles O10. -/
theorem rsEncodeLinear : Obligations.RsEncodeLinear := rsEncode_linear

/-- The matrix form is linear over GF(2) in the pair of key words, as `rsEncode` is. -/
theorem rsMatrixLane_linear (r : Fin 4) : XorLinear₂ (rsMatrixLane r) := fun k0 k1 m0 m1 => by
  obtain ⟨a0, a1, a2, a3, a4, a5, a6, a7, hrow⟩ : ∃ a0 a1 a2 a3 a4 a5 a6 a7,
      rsMatrixRow r = [a0, a1, a2, a3, a4, a5, a6, a7] := by
    fin_cases r <;> exact ⟨_, _, _, _, _, _, _, _, rfl⟩
  simp only [rsMatrixLane, hrow, wordBytes, List.cons_append, List.nil_append, List.zipWith_cons_cons,
    List.zipWith_nil_left, List.foldl_cons, List.foldl_nil, lane_xor, XorLinear.gfmul_right _ _ _ _]
  ac_rfl

theorem lane_rsEncode_linear (r : Fin 4) : XorLinear₂ fun k0 k1 => lane r (rsEncode k0 k1) :=
  fun k0 k1 m0 m1 => by simp only [rsEncode_linear k0 k1 m0 m1, lane_xor]

/-- The columns of the even key word's bytes, bit by bit. -/
theorem lane_rsEncode_even (r : Fin 4) (i : Fin 32) :
    lane r (rsEncode (BitVec.twoPow 32 i) 0) = rsMatrixLane r (BitVec.twoPow 32 i) 0 := by
  revert r i
  decide +kernel

/-- The columns of the odd key word's bytes, bit by bit. -/
theorem lane_rsEncode_odd (r : Fin 4) (i : Fin 32) :
    lane r (rsEncode 0 (BitVec.twoPow 32 i)) = rsMatrixLane r 0 (BitVec.twoPow 32 i) := by
  revert r i
  decide +kernel

/-- Settles O11. -/
theorem rsEncodeIsMatrixProduct : Obligations.RsEncodeIsMatrixProduct := fun r =>
  (lane_rsEncode_linear r).ext (rsMatrixLane_linear r) (lane_rsEncode_even r) (lane_rsEncode_odd r)

end Sys2Proof.Machine
end

section
/-!
PROOFS. The statements on the fixed tables (41_fixed_tables.md). A column of the MDS matrix is known by
its lanes, each the product with one entry, which is linear and has an inverse in the field; the
permutations `Q` are one-to-one because the steps of their construction are. So every lane of `MDSQ` is a
permutation of the bytes, and that is why its `xor` and `sum` are what they are. What has no such reason,
the printed entries and the other two checksums, is evaluated in the kernel.

`Elab.async` is off here as in the proofs before.
-/

set_option Elab.async false

namespace Sys2Proof.Machine

/-! ### The MDS matrix and its columns -/

namespace XorLinear

theorem mdsEntry_mul : ∀ e : MdsEntry, XorLinear e.mul
  | .one => id
  | .x => mulX
  | .y => mulY

end XorLinear

/-- Byte `r` of column `j` is the byte times the entry in row `r` of that column. -/
theorem lane_mdsCol (r j : Fin 4) (y : Byte) :
    lane r (mdsCol j y) = ((mdsMatrix.get r).get j).mul y := by
  fin_cases j <;> (simp only [mdsCol, lane_word]; fin_cases r <;> rfl)

theorem lane_mdsMul (r : Fin 4) (x : Word) : lane r (mdsMul x) = mdsRow r x := by
  rw [mdsMul, lane_word]
  fin_cases r <;> rfl

theorem mdsMul_eq_columns (x : Word) : mdsMul x =
    mdsCol 0 (lane 0 x) ^^^ mdsCol 1 (lane 1 x) ^^^ mdsCol 2 (lane 2 x) ^^^ mdsCol 3 (lane 3 x) :=
  eq_of_lanes fun r => by simp only [lane_mdsMul, mdsRow, lane_xor, lane_mdsCol]

theorem XorLinear.mdsCol (j : Fin 4) : XorLinear (Machine.mdsCol j) := fun x y =>
  eq_of_lanes fun r => by
    rw [lane_xor, lane_mdsCol, lane_mdsCol, lane_mdsCol, XorLinear.mdsEntry_mul]

/-- Settles O14. -/
theorem mdsProductIsSumOfColumns : Obligations.MdsProductIsSumOfColumns :=
  ⟨mdsMul_eq_columns, fun j x y => ⟨XorLinear.mdsCol j x y, (XorLinear.mdsCol j).map_zero⟩⟩

/-! ### The permutations `Q` -/

/-- The mixing of the two halves that stands before each pair of look-ups (41_fixed_tables.md R143). -/
def qMix (h : BitVec 4 × BitVec 4) : BitVec 4 × BitVec 4 :=
  (h.1 ^^^ h.2, h.1 ^^^ ror4 h.2 ^^^ (h.1 <<< 3))

/-- The pair of look-ups after a mixing (41_fixed_tables.md R143). -/
def qLookup (t u : Vec (BitVec 4) 16) : BitVec 4 × BitVec 4 → BitVec 4 × BitVec 4 :=
  Prod.map (nibbleAt t) (nibbleAt u)

/-- The upper and the lower half of a byte. -/
def halves (x : Byte) : BitVec 4 × BitVec 4 := (x.extractLsb' 4 4, x.extractLsb' 0 4)

/-- The construction is two turns of mixing and look-ups; the last pair stands swapped in the byte. -/
theorem halves_qperm (t : Vec (Vec (BitVec 4) 16) 4) (x : Byte) : (halves (qperm t x)).swap =
    qLookup (t.get 2) (t.get 3) (qMix (qLookup (t.get 0) (t.get 1) (qMix (halves x)))) := by
  have hhalves (a b : BitVec 4) : (halves (b ++ a)).swap = (a, b) := by
    simp only [halves, Prod.swap_prod_mk, BitVec.extractLsb'_append_eq_left,
      BitVec.extractLsb'_append_eq_right]
  exact hhalves _ _

theorem halves_injective : Function.Injective halves := fun x y h => by
  obtain ⟨hhigh, hlow⟩ := Prod.mk.inj h
  have happend (z : Byte) : z.extractLsb' 4 4 ++ z.extractLsb' 0 4 = z :=
    (BitVec.extractLsb'_append_extractLsb'_eq_extractLsb' rfl).trans BitVec.extractLsb'_eq_self
  rw [← happend x, ← happend y, hhigh, hlow]

/-- The second result of a mixing is the first half's Gray code, but for a term in the first result. -/
theorem qMix_snd (a b : BitVec 4) : (qMix (a, b)).2 = (a ^^^ a >>> 1) ^^^ ror4 (qMix (a, b)).1 := by
  revert a b
  decide

theorem grayCode_injective : Function.Injective fun a : BitVec 4 => a ^^^ a >>> 1 := by
  decide

theorem qMix_injective : Function.Injective qMix := by
  rintro ⟨a, b⟩ ⟨c, d⟩ h
  have hgray : a ^^^ a >>> 1 = c ^^^ c >>> 1 := by
    have hsnd := congrArg Prod.snd h
    rwa [qMix_snd, qMix_snd, h, BitVec.xor_left_inj] at hsnd
  obtain rfl : a = c := grayCode_injective hgray
  have hfst : a ^^^ b = a ^^^ d := congrArg Prod.fst h
  rw [(BitVec.xor_right_inj a).mp hfst]

theorem nibbleAt_qNibbles_injective (s : Fin 2) (k : Fin 4) :
    Function.Injective (nibbleAt ((qNibbles s).get k)) := by
  revert s k
  decide +kernel

/-- Mixing and look-ups lose nothing, so the construction from four permutations is one-to-one. -/
theorem qperm_injective {t : Vec (Vec (BitVec 4) 16) 4}
    (ht : ∀ k, Function.Injective (nibbleAt (t.get k))) : Function.Injective (qperm t) := by
  have hlookup (j k : Fin 4) : Function.Injective (qLookup (t.get j) (t.get k)) :=
    (ht j).prodMap (ht k)
  have hturns := (hlookup 2 3).comp (qMix_injective.comp
    ((hlookup 0 1).comp (qMix_injective.comp halves_injective)))
  intro x y h
  apply hturns
  simpa only [halves_qperm, Function.comp_apply] using congrArg (fun z => (halves z).swap) h

/-- The printed entries against the construction, entry by entry. -/
theorem Q_eq_qperm (s : Fin 2) (x : Byte) : Q s x = qperm (qNibbles s) x := by
  revert s x
  decide +kernel

theorem Q_bijective (s : Fin 2) : Function.Bijective (Q s) := by
  rw [funext (Q_eq_qperm s)]
  exact (qperm_injective (nibbleAt_qNibbles_injective s)).bijective_of_finite

/-- Settles O12. -/
theorem qTablesArePermutations : Obligations.QTablesArePermutations := ⟨Q_bijective, Q_eq_qperm⟩

/-! ### The tables `MDSQ` -/

/-- The formula against the printed words, entry by entry. -/
theorem MDSQ_eq_mdsqPrinted (j : Fin 4) (i : Byte) : MDSQ j i = mdsqPrinted j i := by
  revert j i
  decide +kernel

/-- Settles O13. -/
theorem mdsqEqualsPrintedTables : Obligations.MdsqEqualsPrintedTables :=
  ⟨fun _ => ⟨rfl, rfl, rfl, rfl⟩, MDSQ_eq_mdsqPrinted⟩

/-- The inverse of a matrix entry in the MDS field. -/
def MdsEntry.inverse : MdsEntry → Byte
  | .one => 0x01
  | .x => 0x49
  | .y => 0x89

theorem gfmul_mul_inverse (e : MdsEntry) (y : Byte) :
    gfmul (e.mul y) e.inverse Config.MDS_GF_FDBK = y := by
  refine ((XorLinear.gfmul_left e.inverse _).comp (XorLinear.mdsEntry_mul e)).ext XorLinear.id ?_ y
  cases e <;> decide

theorem mdsEntry_mul_bijective (e : MdsEntry) : Function.Bijective e.mul :=
  have hinj : Function.Injective e.mul :=
    Function.LeftInverse.injective (g := fun z => gfmul z e.inverse Config.MDS_GF_FDBK)
      (gfmul_mul_inverse e)
  hinj.bijective_of_finite

/-- Lane `k` of `MDSQ[j]` is a permutation `Q` followed by a product with a unit of the field. -/
theorem lane_MDSQ_bijective (j k : Fin 4) : Function.Bijective fun i : Byte => lane k (MDSQ j i) := by
  simp only [MDSQ, lane_mdsCol]
  exact (mdsEntry_mul_bijective _).comp (Q_bijective _)

/-! ### Checksums of permuted bytes

The exclusive or and the sum do not depend on the order of the entries. So a table whose bytes are those
of `byteValues` in some order has the checksums of `byteValues`; and so has every lane of `MDSQ[j]`, of
which its two checksums are put together. -/

theorem mem_byteValues (b : Byte) : b ∈ byteValues :=
  List.mem_map.mpr ⟨b.toNat, List.mem_range.mpr b.isLt, by simp⟩

theorem nodup_byteValues : byteValues.Nodup := by
  refine List.Nodup.map_on (fun m hm n hn h => ?_) List.nodup_range
  rw [List.mem_range] at hm hn
  have hval := congrArg BitVec.toNat h
  rwa [BitVec.toNat_ofNat, BitVec.toNat_ofNat, Nat.mod_eq_of_lt hm, Nat.mod_eq_of_lt hn] at hval

theorem map_byteValues_perm {f : Byte → Byte} (hf : Function.Bijective f) :
    (byteValues.map f).Perm byteValues := by
  rw [List.perm_ext_iff_of_nodup (nodup_byteValues.map hf.injective) nodup_byteValues]
  intro b
  obtain ⟨a, rfl⟩ := hf.surjective b
  simp only [mem_byteValues, List.mem_map_of_mem]

theorem qTable_perm (s : Fin 2) : (qTable s).Perm byteValues := map_byteValues_perm (Q_bijective s)

theorem map_lane_mdsqTable_perm (j k : Fin 4) :
    ((mdsqTable j).map (lane k)).Perm byteValues := by
  rw [mdsqTable, List.map_map]
  exact map_byteValues_perm (lane_MDSQ_bijective j k)

theorem xorSum_zext_of_perm {l : List Byte} (h : l.Perm byteValues) : xorSum (l.map zext) = 0 := by
  have hvalues : xorSum (byteValues.map zext) = 0 := by decide +kernel
  rw [← hvalues]
  exact (h.map zext).foldl_eq 0

theorem plainSum_zext_of_perm {l : List Byte} (h : l.Perm byteValues) :
    plainSum (l.map zext) = 32640 := by
  have hvalues : plainSum (byteValues.map zext) = 32640 := by decide +kernel
  rw [← hvalues]
  exact (h.map zext).foldl_eq 0

/-- Taking a lane is linear, so it can be done before the exclusive or. -/
theorem zext_lane_xorSum (k : Fin 4) (t : List Word) :
    zext (lane k (xorSum t)) = xorSum ((t.map (lane k)).map zext) := by
  have hstep (x y : Word) : zext (lane k x) ^^^ zext (lane k y) = zext (lane k (x ^^^ y)) :=
    (XorLinear.setWidth.comp (XorLinear.lane k) x y).symm
  have hzero : zext (lane k 0) = 0 := (XorLinear.setWidth.comp (XorLinear.lane k)).map_zero
  calc zext (lane k (xorSum t))
    _ = t.foldl (fun z y => z ^^^ zext (lane k y)) (zext (lane k 0)) :=
      (List.foldl_hom (fun x => zext (lane k x)) hstep).symm
    _ = xorSum ((t.map (lane k)).map zext) := by
      rw [hzero, xorSum, List.foldl_map, List.foldl_map]

theorem xorSum_of_lanes_perm {t : List Word} (h : ∀ k, (t.map (lane k)).Perm byteValues) :
    xorSum t = 0 := by
  refine eq_of_lanes fun k => ?_
  have hlane : lane 0 (zext (lane k (xorSum t))) = 0 := by
    rw [zext_lane_xorSum, xorSum_zext_of_perm (h k), lane_zero]
  rwa [lane_zext, if_pos rfl, ← lane_zero k] at hlane

theorem toNat_zext_lane (k : Fin 4) (x : Word) :
    (zext (lane k x)).toNat = x.toNat / 2 ^ (8 * k.val) % 2 ^ 8 := by
  rw [zext, BitVec.toNat_setWidth_of_le (by decide), lane, BitVec.extractLsb'_toNat,
    Nat.shiftRight_eq_div_pow]

/-- A word is the sum of its lanes, each at its place value. -/
theorem word_eq_sum_lanes (x : Word) : x = zext (lane 0 x) + zext (lane 1 x) * 0x100 +
    zext (lane 2 x) * 0x10000 + zext (lane 3 x) * 0x1000000 := by
  have h0 : (zext (lane 0 x)).toNat = x.toNat / 1 % 256 := toNat_zext_lane 0 x
  have h1 : (zext (lane 1 x)).toNat = x.toNat / 0x100 % 256 := toNat_zext_lane 1 x
  have h2 : (zext (lane 2 x)).toNat = x.toNat / 0x10000 % 256 := toNat_zext_lane 2 x
  have h3 : (zext (lane 3 x)).toNat = x.toNat / 0x1000000 % 256 := toNat_zext_lane 3 x
  bv_omega

theorem plainSum_eq_sum (t : List Word) : plainSum t = t.sum := List.sum_eq_foldl.symm

theorem plainSum_eq_lanes (t : List Word) : plainSum t =
    plainSum ((t.map (lane 0)).map zext) + plainSum ((t.map (lane 1)).map zext) * 0x100 +
      plainSum ((t.map (lane 2)).map zext) * 0x10000 +
      plainSum ((t.map (lane 3)).map zext) * 0x1000000 := by
  have hsplit : t = t.map fun x => zext (lane 0 x) + zext (lane 1 x) * 0x100 +
      zext (lane 2 x) * 0x10000 + zext (lane 3 x) * 0x1000000 := by
    simp only [← word_eq_sum_lanes, List.map_id']
  conv_lhs => rw [hsplit]
  simp only [plainSum_eq_sum, List.sum_map_add, List.sum_map_mul_right, List.map_map]
  rfl

/-- Each of the four lanes adds up to 32640, at its place value. -/
theorem plainSum_of_lanes_perm {t : List Word} (h : ∀ k, (t.map (lane k)).Perm byteValues) :
    plainSum t = 0xFFFFFF80 := by
  rw [plainSum_eq_lanes]
  simp only [plainSum_zext_of_perm (h _)]
  decide

/-! ### The checksums of the six tables -/

theorem xorSum_qTable (s : Fin 2) : xorSum ((qTable s).map zext) = 0 :=
  xorSum_zext_of_perm (qTable_perm s)

theorem plainSum_qTable (s : Fin 2) : plainSum ((qTable s).map zext) = 32640 :=
  plainSum_zext_of_perm (qTable_perm s)

theorem xorSum_mdsqTable (j : Fin 4) : xorSum (mdsqTable j) = 0 :=
  xorSum_of_lanes_perm (map_lane_mdsqTable_perm j)

theorem plainSum_mdsqTable (j : Fin 4) : plainSum (mdsqTable j) = 0xFFFFFF80 :=
  plainSum_of_lanes_perm (map_lane_mdsqTable_perm j)

theorem wsum_qTable : ∀ s : Fin 2,
    wsum ((qTable s).map zext) = ![0x003DD69A, 0x003DD8D8] s := by
  decide +kernel

theorem wsum_mdsqTable : ∀ j : Fin 4,
    wsum (mdsqTable j) = ![0x8617FED8, 0xDF0A4750, 0xADC9DA26, 0x07689DD2] j := by
  decide +kernel

theorem sha256_qTable : ∀ s : Fin 2, sha256 (qTable s) =
    ![0x0e645a5e8af7a03377460f11fb62dccbe409d403259af4be5fdfa22641938fd9,
      0xfb231e7fd8f1f24b5b212db76efe657ca1e2e660429021755ed6ace57fb49a01] s := by
  decide +kernel

/-- One evaluation in the kernel for each table: together they would hold four times the memory. -/
theorem sha256_mdsqTable : ∀ j : Fin 4, sha256 ((mdsqTable j).flatMap wordBytes) =
    ![0xca1a4e7d1fd5fdfbab163587b1bc1a608f578a475571bceb2f05d2cbe74626ad,
      0x41f98d4e169e5a4e695871e34e3d217ad760534c43406df15f2eefad15e7dc82,
      0x96ac949a58e733c6a4866d84c31b123d85061eb8d743ce9db27c0b07f9a287b2,
      0xd795eba3f9ea2716e199978e96ece014cf91595073c5e90751374761d9260a2b] j
  | 0 => by decide +kernel
  | 1 => by decide +kernel
  | 2 => by decide +kernel
  | 3 => by decide +kernel

/-- Settles O59: `xor` and `sum` hold because bytes are permuted; `wsum` and `sha256` are computed. -/
theorem tableChecksums : Obligations.TableChecksums := by
  refine ⟨?_, ?_, lane_MDSQ_bijective, rfl⟩
  · simp only [List.forall_mem_cons]
    exact ⟨⟨xorSum_qTable 0, plainSum_qTable 0, wsum_qTable 0, sha256_qTable 0⟩,
      ⟨xorSum_qTable 1, plainSum_qTable 1, wsum_qTable 1, sha256_qTable 1⟩, List.forall_mem_nil _⟩
  · simp only [List.forall_mem_cons]
    exact ⟨⟨xorSum_mdsqTable 0, plainSum_mdsqTable 0, wsum_mdsqTable 0, sha256_mdsqTable 0⟩,
      ⟨xorSum_mdsqTable 1, plainSum_mdsqTable 1, wsum_mdsqTable 1, sha256_mdsqTable 1⟩,
      ⟨xorSum_mdsqTable 2, plainSum_mdsqTable 2, wsum_mdsqTable 2, sha256_mdsqTable 2⟩,
      ⟨xorSum_mdsqTable 3, plainSum_mdsqTable 3, wsum_mdsqTable 3, sha256_mdsqTable 3⟩,
      List.forall_mem_nil _⟩

end Sys2Proof.Machine
end

section
/-!
PROOFS. The statements on the key schedule and `KSCHED` (42_key_schedule.md). A key word is its four key
bytes; the derivation reads the key through the even and odd key words alone; the expanded table keeps the
entry of each lane and byte at an index of its own, and F32 is the four lane functions side by side.

`Elab.async` is off here as in the proofs before.
-/

set_option Elab.async false

namespace Sys2Proof.Machine

/-! ### The command -/

/-- The accepted key lengths, by the rule's other form (42_key_schedule.md R161). -/
theorem validKeyLength_iff_multiple_of_8 {len : Nat} :
    validKeyLength len = true ↔ len ≠ 0 ∧ len ≤ 32 ∧ len % 8 = 0 := by
  rw [validKeyLength_iff]
  omega

/-- Settles O17. -/
theorem kschedPublishesSchedule : Obligations.KschedPublishesSchedule := fun _ s hlen =>
  exec_ksched_of_valid (validKeyLength_iff.mpr hlen) s

/-- Settles O18. -/
theorem kschedRejectsBadLength : Obligations.KschedRejectsBadLength :=
  ⟨fun _ s hlen => exec_ksched_of_invalid (mt validKeyLength_iff.mp hlen) s,
    fun _ => validKeyLength_iff, fun _ => validKeyLength_iff_multiple_of_8,
    by decide +kernel, by decide⟩

/-! ### Key bytes and key words -/

/-- Key byte `4 m + l` is lane `l` of `KEYW[m]` (10_state.md R22). -/
theorem keyByte_eq_lane (kw : Vec Word 8) {b : Fin 32} {m : Fin 8} {l : Fin 4}
    (h : b.val = 4 * m.val + l.val) : keyByte kw b = lane l (kw.get m) := by
  have hword : (⟨b.val / 4, by omega⟩ : Fin 8) = m := Fin.ext (by simp only; omega)
  have hlane : (⟨b.val % 4, Nat.mod_lt _ (by decide)⟩ : Fin 4) = l := Fin.ext (by simp only; omega)
  rw [keyByte, hword, hlane]

/-- Four key bytes in a row, the first at a multiple of 4, make a key word. -/
theorem word_keyBytes (kw : Vec Word 8) {b0 b1 b2 b3 : Fin 32} {m : Fin 8}
    (h0 : b0.val = 4 * m.val) (h1 : b1.val = 4 * m.val + 1) (h2 : b2.val = 4 * m.val + 2)
    (h3 : b3.val = 4 * m.val + 3) :
    word (keyByte kw b0) (keyByte kw b1) (keyByte kw b2) (keyByte kw b3) = kw.get m := by
  rw [keyByte_eq_lane kw (l := 0) h0, keyByte_eq_lane kw (l := 1) h1,
    keyByte_eq_lane kw (l := 2) h2, keyByte_eq_lane kw (l := 3) h3, word_lanes]

/-- Key files that agree on the first `len` bytes agree on every word within them. -/
theorem get_eq_of_keyBytes_eq {kw kw' : Vec Word 8} {len : Nat}
    (h : ∀ j : Fin 32, j.val < len → keyByte kw j = keyByte kw' j) {m : Fin 8}
    (hm : 4 * m.val + 4 ≤ len) : kw.get m = kw'.get m :=
  eq_of_lanes fun l => by
    have hbyte := h ⟨4 * m.val + l.val, by omega⟩ (by simp only; omega)
    rwa [keyByte_eq_lane kw rfl, keyByte_eq_lane kw' rfl] at hbyte

/-! ### The even and the odd key words -/

section
variable (kw : Vec Word 8) {len : Nat} {i : Fin 4}

theorem k32e_get_of_lt (h : i.val < len / 8) :
    (k32e kw len).get i = kw.get ⟨2 * i.val, by omega⟩ := (Vec.get_tabulate _ i).trans (if_pos h)

theorem k32o_get_of_lt (h : i.val < len / 8) :
    (k32o kw len).get i = kw.get ⟨2 * i.val + 1, by omega⟩ :=
  (Vec.get_tabulate _ i).trans (if_pos h)

theorem k32e_get_of_le (h : len / 8 ≤ i.val) : (k32e kw len).get i = 0 :=
  (Vec.get_tabulate _ i).trans (if_neg (not_lt.mpr h))

theorem k32o_get_of_le (h : len / 8 ≤ i.val) : (k32o kw len).get i = 0 :=
  (Vec.get_tabulate _ i).trans (if_neg (not_lt.mpr h))

end

/-- Settles O19. -/
theorem keySplitsIntoEvenAndOddWords : Obligations.KeySplitsIntoEvenAndOddWords := by
  refine fun kw len i =>
    ⟨fun h => ?_, fun h => ⟨k32e_get_of_le kw h, k32o_get_of_le kw h⟩⟩
  rw [k32e_get_of_lt kw h, k32o_get_of_lt kw h]
  refine ⟨rfl, rfl, (word_keyBytes kw ?_ ?_ ?_ ?_).symm, (word_keyBytes kw ?_ ?_ ?_ ?_).symm⟩ <;>
    simp only <;> omega

/-- Words picked from the used pairs, word `2 i` or `2 i + 1` for slot `i`, lie within the first `len` key
bytes: the argument that the even and the odd key words share. -/
theorem usedKeyWords_eq_of_keyBytes_eq {kw kw' : Vec Word 8} {len : Nat}
    (h : ∀ j : Fin 32, j.val < len → keyByte kw j = keyByte kw' j) {f : Fin 4 → Fin 8}
    (hf : ∀ i, (f i).val ≤ 2 * i.val + 1) :
    (Vec.tabulate fun i => if i.val < k64Cnt len then kw.get (f i) else 0) =
      (Vec.tabulate fun i => if i.val < k64Cnt len then kw'.get (f i) else 0) := by
  refine congrArg Vec.tabulate (funext fun i => ite_congr rfl (fun hi => ?_) fun _ => rfl)
  have hword := hf i
  rw [k64Cnt] at hi
  exact get_eq_of_keyBytes_eq h (by omega)

section
variable {kw kw' : Vec Word 8} {len : Nat}

theorem k32e_eq_of_keyBytes_eq (h : ∀ j : Fin 32, j.val < len → keyByte kw j = keyByte kw' j) :
    k32e kw len = k32e kw' len := usedKeyWords_eq_of_keyBytes_eq h fun _ => Nat.le_succ _

theorem k32o_eq_of_keyBytes_eq (h : ∀ j : Fin 32, j.val < len → keyByte kw j = keyByte kw' j) :
    k32o kw len = k32o kw' len := usedKeyWords_eq_of_keyBytes_eq h fun _ => le_rfl

end

/-- The derivation reads the key through the even and odd key words alone. -/
theorem deriveSchedule_congr {kw kw' : Vec Word 8} {len : Nat}
    (he : k32e kw len = k32e kw' len) (ho : k32o kw len = k32o kw' len) :
    deriveSchedule kw len = deriveSchedule kw' len := by
  simp only [deriveSchedule, sboxKeyWords, subkeyWords, subkeyA, subkeyB, he, ho]

/-- Settles O23. -/
theorem scheduleDependsOnKeyBytesAlone : Obligations.ScheduleDependsOnKeyBytesAlone :=
  fun _ _ _ _ h => deriveSchedule_congr (k32e_eq_of_keyBytes_eq h) (k32o_eq_of_keyBytes_eq h)

/-! ### The S-box key words -/

/-- The entry that pair `i` of the used key words writes: the entries run against the pairs. -/
theorem sboxKeyWords_get_of_lt (kw : Vec Word 8) {len : Nat} {i m : Fin 4} (hi : i.val < len / 8)
    (hm : m.val = len / 8 - 1 - i.val) : (sboxKeyWords kw len).get m =
      rsEncode (kw.get ⟨2 * i.val, by omega⟩) (kw.get ⟨2 * i.val + 1, by omega⟩) := by
  have hused : m.val < k64Cnt len := by simp only [k64Cnt]; omega
  have hpair : k64Cnt len - 1 - m.val = i.val := by simp only [k64Cnt]; omega
  rw [sboxKeyWords, Vec.get_tabulate, if_pos hused, hpair, Vec.toList_getD, Vec.toList_getD,
    k32e_get_of_lt kw hi, k32o_get_of_lt kw hi]

theorem sboxKeyWords_get_of_le (kw : Vec Word 8) {len : Nat} {m : Fin 4} (h : len / 8 ≤ m.val) :
    (sboxKeyWords kw len).get m = 0 := (Vec.get_tabulate _ m).trans (if_neg (not_lt.mpr h))

/-- Settles O20. -/
theorem sboxKeyWordsReversed : Obligations.SboxKeyWordsReversed :=
  ⟨fun kw _ _ => ⟨fun _ _ hi hm => sboxKeyWords_get_of_lt kw hi hm,
    fun _ hm => sboxKeyWords_get_of_le kw hm⟩, by decide +kernel⟩

/-! ### The subkey words -/

theorem subkeyWords_get_even (kw : Vec Word 8) (len : Nat) (p : Fin 20) :
    (subkeyWords kw len).get ⟨2 * p.val, by omega⟩ =
      subkeyA kw len p.val + subkeyB kw len p.val := by
  rw [subkeyWords, Vec.get_tabulate, if_pos (Nat.mul_mod_right 2 p.val),
    Nat.mul_div_cancel_left p.val two_pos]

theorem subkeyWords_get_odd (kw : Vec Word 8) (len : Nat) (p : Fin 20) :
    (subkeyWords kw len).get ⟨2 * p.val + 1, by omega⟩ =
      rotl32 (subkeyA kw len p.val + subkeyB kw len p.val + subkeyB kw len p.val) 9 := by
  have hodd : ¬ (2 * p.val + 1) % 2 = 0 := by omega
  have hpair : (2 * p.val + 1) / 2 = p.val := by omega
  rw [subkeyWords, Vec.get_tabulate, if_neg hodd, hpair, two_mul, ← add_assoc]
  rfl

/-- The F32 inputs `q` and `q + 0x01010101` of pair `p` have the byte `2p`, `2p + 1` in every lane
(42_key_schedule.md R165). -/
theorem subkeyQ_eq_word (p : Fin 20) :
    subkeyQ p.val = word (BitVec.ofNat 8 (2 * p.val)) (BitVec.ofNat 8 (2 * p.val))
      (BitVec.ofNat 8 (2 * p.val)) (BitVec.ofNat 8 (2 * p.val)) ∧
    subkeyQ p.val + 0x01010101 =
      word (BitVec.ofNat 8 (2 * p.val) + 1) (BitVec.ofNat 8 (2 * p.val) + 1)
        (BitVec.ofNat 8 (2 * p.val) + 1) (BitVec.ofNat 8 (2 * p.val) + 1) := by
  revert p
  decide +kernel

/-- Settles O21. -/
theorem subkeyPairsByHadamard : Obligations.SubkeyPairsByHadamard :=
  ⟨⟨fun _ => rfl, rfl, rfl, rfl, rfl⟩,
    fun kw len p => ⟨subkeyWords_get_even kw len p, subkeyWords_get_odd kw len p⟩, subkeyQ_eq_word⟩

/-! ### F32 lane by lane -/

/-- A stage works on the four lanes apart (43_round_function_f32.md R192). -/
@[simp] theorem lane_stage (s : Fin 5) (j : Fin 4) (y kw : Word) :
    lane j (stage s y kw) = stageLane s j (lane j y) kw := by
  rw [stage, lane_word]
  fin_cases j <;> rfl

/-- Every stage works on the lanes apart and the last line is an XOR over them, so F32 is the XOR of the
four lane functions (43_round_function_f32.md R196). -/
theorem F32_eq_xor_laneF32 (cls : Fin 4) (x : Word) (k : Vec Word 4) : F32 cls x k =
    laneF32 cls 0 (lane 0 x) k ^^^ laneF32 cls 1 (lane 1 x) k ^^^
    laneF32 cls 2 (lane 2 x) k ^^^ laneF32 cls 3 (lane 3 x) k := by
  simp only [F32, laneF32, mdsqSum, lane_stage, apply_ite (lane _)]

/-! ### The expanded table -/

@[simp] theorem xidxLane_XIDX (j : Fin 4) (i : Byte) : xidxLane (XIDX j i) = j := by
  have hi := i.isLt
  refine Fin.ext ?_
  simp only [xidxLane, XIDX]
  omega

@[simp] theorem xidxByte_XIDX (j : Fin 4) (i : Byte) : xidxByte (XIDX j i) = i := by
  have hi := i.isLt
  refine BitVec.eq_of_toNat_eq ?_
  simp only [xidxByte, XIDX, BitVec.toNat_ofNat]
  omega

@[simp] theorem XIDX_xidxLane_xidxByte (n : Fin 1024) : XIDX (xidxLane n) (xidxByte n) = n := by
  refine Fin.ext ?_
  simp only [xidxLane, xidxByte, XIDX, BitVec.toNat_ofNat]
  omega

/-- Every index holds the entry of one lane and one byte (10_state.md R42). -/
theorem XIDX_bijective : Function.Bijective fun p : Fin 4 × Byte => XIDX p.1 p.2 :=
  Function.bijective_iff_has_inverse.mpr ⟨fun n => (xidxLane n, xidxByte n),
    fun p => Prod.ext (xidxLane_XIDX p.1 p.2) (xidxByte_XIDX p.1 p.2), XIDX_xidxLane_xidxByte⟩

@[simp] theorem expandedWords_get_XIDX (cls : Fin 4) (sk : Vec Word 4) (j : Fin 4) (i : Byte) :
    (expandedWords cls sk).get (XIDX j i) = laneF32 cls j i sk := by
  rw [expandedWords, Vec.get_tabulate, xidxLane_XIDX, xidxByte_XIDX]

/-- The four look-ups of a word in the expanded table make F32 of it (42_key_schedule.md R166). -/
theorem g_expandedWords (cls : Fin 4) (sk : Vec Word 4) (x : Word) :
    g (expandedWords cls sk) x = F32 cls x sk := by
  simp only [g, expandedWords_get_XIDX, F32_eq_xor_laneF32]

theorem XIDX_val_by_lane (i : Byte) :
    (XIDX 0 i).val = 2 * i.toNat ∧ (XIDX 1 i).val = 2 * i.toNat + 1 ∧
    (XIDX 2 i).val = 0x200 + 2 * i.toNat ∧ (XIDX 3 i).val = 0x200 + 2 * i.toNat + 1 := by
  simp [XIDX]

/-- Settles O22. -/
theorem expandedTableHoldsLanes : Obligations.ExpandedTableHoldsLanes :=
  ⟨XIDX_val_by_lane, XIDX_bijective, fun _ _ =>
    ⟨expandedWords_get_XIDX _ _, g_expandedWords _ _⟩⟩

end Sys2Proof.Machine
end

section
/-!
PROOFS. The statements on the round function F32 (43_round_function_f32.md). That F32 is four byte lanes
stands above, where the expanded table needs it. Each of F32's first three lines reads one key word and
only when its test holds, so F32 depends on no key word whose test fails.

`Elab.async` is off here as in the proofs before.
-/

set_option Elab.async false

namespace Sys2Proof.Machine

/-! ### The four lanes -/

/-- Settles O15. -/
theorem f32IsSumOfLanes : Obligations.F32IsSumOfLanes := F32_eq_xor_laneF32

/-! ### The key words that a class reads -/

/-- A guarded line of F32 reads its key word only when its test holds (43_round_function_f32.md R193). -/
theorem guardedStage_congr {test : Prop} [Decidable test] (s : Fin 5) {y y' kw kw' : Word}
    (hy : y = y') (hkw : test → kw = kw') :
    (if test then stage s y kw else y) = if test then stage s y' kw' else y' :=
  ite_congr rfl (fun ht => congrArg₂ (stage s) hy (hkw ht)) fun _ => hy

/-- F32 depends on a key word only for the classes that apply its line (43_round_function_f32.md R195). -/
theorem F32_congr {cls : Fin 4} {k k' : Vec Word 4} (x : Word) (h0 : k.get 0 = k'.get 0)
    (h1 : cls = 0 ∨ cls = 3 ∨ cls = 2 → k.get 1 = k'.get 1)
    (h2 : cls = 0 ∨ cls = 3 → k.get 2 = k'.get 2) (h3 : cls = 0 → k.get 3 = k'.get 3) :
    F32 cls x k = F32 cls x k' := by
  have hy4 := guardedStage_congr 4 (rfl : x = x) h3
  have hy3 := guardedStage_congr 3 hy4 h2
  have hy2 := guardedStage_congr 2 hy3 h1
  exact congrArg mdsqSum (congrArg₂ (stage 1) hy2 h0)

/-- Class 1 applies none of the guarded lines. -/
theorem F32_class1_congr (x : Word) {k k' : Vec Word 4} (h0 : k.get 0 = k'.get 0) :
    F32 1 x k = F32 1 x k' :=
  F32_congr x h0 (fun h => absurd h (by decide)) (fun h => absurd h (by decide))
    fun h => absurd h (by decide)

/-- Class 2 applies the line of word 1 alone of the guarded lines. -/
theorem F32_class2_congr (x : Word) {k k' : Vec Word 4} (h0 : k.get 0 = k'.get 0)
    (h1 : k.get 1 = k'.get 1) : F32 2 x k = F32 2 x k' :=
  F32_congr x h0 (fun _ => h1) (fun h => absurd h (by decide)) fun h => absurd h (by decide)

/-- Class 3 applies every guarded line but that of word 3. -/
theorem F32_class3_congr (x : Word) {k k' : Vec Word 4} (h0 : k.get 0 = k'.get 0)
    (h1 : k.get 1 = k'.get 1) (h2 : k.get 2 = k'.get 2) : F32 3 x k = F32 3 x k' :=
  F32_congr x h0 (fun _ => h1) (fun _ => h2) fun h => absurd h (by decide)

/-- The example of 43_round_function_f32.md R195 with zero in the words that class 2 does not use. -/
theorem F32_class2_example :
    F32 2 0x12345678 ⟨[0x67452301, 0x98BADCFE, 0, 0], rfl⟩ = 0xF6F36E84 := by decide +kernel

/-- Settles O16. The second example is the first one with other words in the slots that class 2 ignores. -/
theorem f32IgnoresUnusedKeyWords : Obligations.F32IgnoresUnusedKeyWords :=
  ⟨fun x _ _ => F32_class1_congr x, fun x _ _ => F32_class2_congr x, fun x _ _ => F32_class3_congr x,
    fun kw _ _ h => ⟨k32e_get_of_le kw h, k32o_get_of_le kw h⟩,
    F32_class2_example, (F32_class2_congr _ rfl rfl).trans F32_class2_example⟩

end Sys2Proof.Machine
end

section
/-!
PROOFS. The statements on the block transform, `ENC` and `DEC` (44_block_transform.md). The look-ups of `g`
are the lane functions of F32 that the expanded table holds. Each decryption round undoes the encryption
round of the same source half and subkeys, and the other way round; so each turn of one loop undoes the
mirrored turn of the other, and the two whitenings undo each other. None of this looks into the table or
the subkeys, so the block transform is a bijection for any contents of the Schedule.

`Elab.async` is off here as in the proofs before.
-/

set_option Elab.async false

namespace Sys2Proof.Machine

/-! ### The table look-ups -/

/-- A Schedule derived from a key makes `g` the F32 of that key's class (44_block_transform.md R212). -/
theorem g_eq_F32_of_derived {e : Engine} {kw : Vec Word 8} {len : Nat}
    (h : e.schedule = deriveSchedule kw len) (x : Word) :
    g e.xsbox x = F32 (keyClass len) x e.sboxkey := by
  have hx : e.xsbox = expandedWords (keyClass len) (sboxKeyWords kw len) :=
    congrArg Schedule.xsbox h
  have hs : e.sboxkey = sboxKeyWords kw len := congrArg Schedule.sboxkey h
  rw [hx, hs, g_expandedWords]

/-- The four look-ups of `g` go by the bytes of the word to the table indices of R212. -/
theorem g_eq_of_indices (X : Vec Word 1024) (x : Word) {i0 i1 i2 i3 : Fin 1024}
    (h0 : i0.val = 2 * (lane 0 x).toNat) (h1 : i1.val = 2 * (lane 1 x).toNat + 1)
    (h2 : i2.val = 0x200 + 2 * (lane 2 x).toNat) (h3 : i3.val = 0x200 + 2 * (lane 3 x).toNat + 1) :
    g X x = X.get i0 ^^^ X.get i1 ^^^ X.get i2 ^^^ X.get i3 := by
  obtain ⟨hx0, -, -, -⟩ := XIDX_val_by_lane (lane 0 x)
  obtain ⟨-, hx1, -, -⟩ := XIDX_val_by_lane (lane 1 x)
  obtain ⟨-, -, hx2, -⟩ := XIDX_val_by_lane (lane 2 x)
  obtain ⟨-, -, -, hx3⟩ := XIDX_val_by_lane (lane 3 x)
  rw [g, Fin.ext (hx0.trans h0.symm), Fin.ext (hx1.trans h1.symm), Fin.ext (hx2.trans h2.symm),
    Fin.ext (hx3.trans h3.symm)]

/-- Settles O24. -/
theorem tableLookupsComputeF32 : Obligations.TableLookupsComputeF32 := by
  refine ⟨fun X x _ _ _ _ => g_eq_of_indices X x, fun _ _ _ _ h => g_eq_F32_of_derived h, ?_⟩
  intro e hinv hvalid
  obtain ⟨kw, len, hlen, hderived⟩ := hinv.1 hvalid
  exact ⟨kw, len, hlen, hderived, g_eq_F32_of_derived hderived⟩

/-- A rotate by one byte moves every lane up by one, around the end (40_gf256_arithmetic.md R120). -/
theorem lane_rotl32_8 (j : Fin 4) (x : Word) : lane j (rotl32 x 8) = lane (j + 3) x := by
  refine BitVec.eq_of_getLsbD_eq fun i hi => ?_
  have hbit : 8 * j.val + i < 32 := by omega
  rw [getLsbD_lane _ _ hi, getLsbD_lane _ _ hi, getLsbD_rotl32 _ _ hbit, Fin.val_add]
  congr 1
  omega

/-- Settles O25. -/
theorem rotatedLookupMovesLanes : Obligations.RotatedLookupMovesLanes := fun X x => by
  simp only [g, lane_rotl32_8]
  rfl

/-! ### One round -/

/-- A decryption round undoes the encryption round (44_block_transform.md R215): on the first word the
rotate goes back before the XOR, on the second after it. -/
@[simp] theorem decRound_encRound (X : Vec Word 1024) (a b c d ka kb : Word) :
    decRound X a b (encRound X a b c d ka kb).1 (encRound X a b c d ka kb).2 ka kb = (c, d) := by
  simp only [decRound, encRound, rotl32_rotr32, rotr32_rotl32, BitVec.xor_assoc, BitVec.xor_self,
    BitVec.xor_zero]

/-- An encryption round undoes the decryption round just as well (44_block_transform.md R221). -/
@[simp] theorem encRound_decRound (X : Vec Word 1024) (a b c d ka kb : Word) :
    encRound X a b (decRound X a b c d ka kb).1 (decRound X a b c d ka kb).2 ka kb = (c, d) := by
  simp only [decRound, encRound, rotl32_rotr32, rotr32_rotl32, BitVec.xor_assoc, BitVec.xor_self,
    BitVec.xor_zero]

/-- Settles O26. -/
theorem decRoundInvertsEncRound : Obligations.DecRoundInvertsEncRound := fun X a b c d ka kb =>
  ⟨by rw [← BitVec.two_mul]; rfl, decRound_encRound X a b c d ka kb⟩

/-! ### The eight pairs of rounds -/

/-- A loop that undoes each turn of another, last turn first, gives back what that one began with. -/
theorem foldl_reverse_undoes {α ι : Type} {f undo : α → ι → α} (h : ∀ a i, undo (f a i) i = a)
    (l : List ι) (a : α) : l.reverse.foldl undo (l.foldl f a) = a := by
  induction l generalizing a with
  | nil => rfl
  | cons i l ih =>
    rw [List.foldl_cons, List.reverse_cons, List.foldl_append, ih]
    exact h a i

/-- The turns of a loop in ascending order are the mirrored turns in descending order. -/
theorem foldl_pairs_eq_rev {α : Type} (f : α → Fin 8 → α) (a : α) :
    pairs.foldl f a = pairs.reverse.foldl (fun a i => f a i.rev) a :=
  List.foldl_map (f := Fin.rev) (l := pairs.reverse)

/-- Turn `7 - i` of the decryption reads the four subkeys of pair `i` of the encryption
(44_block_transform.md R220). -/
theorem decPair_rev (X : Vec Word 1024) (K : Vec Word 40) (w : Work) (i : Fin 8) :
    decPair X K w i.rev =
      let p := decRound X w.x2 w.x3 w.x0 w.x1
        (K.get ⟨10 + 4 * i.val, by omega⟩) (K.get ⟨11 + 4 * i.val, by omega⟩)
      let r := decRound X p.1 p.2 w.x2 w.x3
        (K.get ⟨8 + 4 * i.val, by omega⟩) (K.get ⟨9 + 4 * i.val, by omega⟩)
      ⟨p.1, p.2, r.1, r.2⟩ := by
  have h8 : 36 - 4 * i.rev.val = 8 + 4 * i.val := by rw [Fin.val_rev]; omega
  have h9 : 37 - 4 * i.rev.val = 9 + 4 * i.val := by rw [Fin.val_rev]; omega
  have h10 : 38 - 4 * i.rev.val = 10 + 4 * i.val := by rw [Fin.val_rev]; omega
  have h11 : 39 - 4 * i.rev.val = 11 + 4 * i.val := by rw [Fin.val_rev]; omega
  simp only [decPair, h8, h9, h10, h11]

section
variable (X : Vec Word 1024) (K : Vec Word 40)

theorem decPair_rev_encPair (w : Work) (i : Fin 8) : decPair X K (encPair X K w i) i.rev = w := by
  simp only [decPair_rev, encPair, decRound_encRound]

theorem encPair_decPair_rev (w : Work) (i : Fin 8) : encPair X K (decPair X K w i.rev) i = w := by
  simp only [decPair_rev, encPair, encRound_decRound]

theorem decPairs_encPairs (w : Work) :
    pairs.foldl (decPair X K) (pairs.foldl (encPair X K) w) = w := by
  rw [foldl_pairs_eq_rev (decPair X K)]
  exact foldl_reverse_undoes (decPair_rev_encPair X K) pairs w

theorem encPairs_decPairs (w : Work) :
    pairs.foldl (encPair X K) (pairs.foldl (decPair X K) w) = w := by
  rw [foldl_pairs_eq_rev (decPair X K), ← pairs.reverse_reverse]
  exact foldl_reverse_undoes (encPair_decPair_rev X K) pairs.reverse w

end

/-! ### The whitenings -/

section
variable (K : Vec Word 40)

@[simp] theorem decLoad_encStore (w : Work) : decLoad K (encStore K w) = w := by
  simp [decLoad, encStore, Vec.get]

@[simp] theorem decStore_encLoad (b : Vec Word 4) : decStore K (encLoad K b) = b := by
  refine Vec.ext_get fun m => ?_
  fin_cases m <;> simp [decStore, encLoad, Vec.get]

@[simp] theorem encLoad_decStore (w : Work) : encLoad K (decStore K w) = w := by
  simp [encLoad, decStore, Vec.get]

@[simp] theorem encStore_decLoad (b : Vec Word 4) : encStore K (decLoad K b) = b := by
  refine Vec.ext_get fun m => ?_
  fin_cases m <;> simp [encStore, decLoad, Vec.get]

end

/-! ### The whole block -/

section
variable (X : Vec Word 1024) (K : Vec Word 40) (b : Vec Word 4)

/-- The whitenings and the loops cancel from the middle outwards (44_block_transform.md R221). -/
@[simp] theorem decBlock_encBlock : decBlock X K (encBlock X K b) = b := by
  rw [decBlock, encBlock, decLoad_encStore, decPairs_encPairs, decStore_encLoad]

@[simp] theorem encBlock_decBlock : encBlock X K (decBlock X K b) = b := by
  rw [encBlock, decBlock, encLoad_decStore, encPairs_decPairs, encStore_decLoad]

end

/-- For a fixed Schedule the encryption is a bijection of the blocks (44_block_transform.md R221). -/
theorem encBlock_bijective (X : Vec Word 1024) (K : Vec Word 40) :
    Function.Bijective (encBlock X K) :=
  Function.bijective_iff_has_inverse.mpr
    ⟨decBlock X K, decBlock_encBlock X K, encBlock_decBlock X K⟩

/-- Settles O30. The host copies `DOUT` to `DIN` between the two commands. -/
theorem encryptDecryptRoundTrip : Obligations.EncryptDecryptRoundTrip := by
  refine ⟨fun s hvalid => ⟨?_, ?_⟩, fun X K =>
    ⟨encBlock_bijective X K, decBlock_encBlock X K, encBlock_decBlock X K⟩⟩
  · exact ⟨_, _, exec_enc_of_svalid hvalid, exec_dec_of_svalid hvalid, decBlock_encBlock _ _ _⟩
  · exact ⟨_, _, exec_dec_of_svalid hvalid, exec_enc_of_svalid hvalid, encBlock_decBlock _ _ _⟩

/-! ### The commands -/

/-- Settles O27. -/
theorem encDeliversCiphertext : Obligations.EncDeliversCiphertext := fun _ hvalid =>
  exec_enc_of_svalid hvalid

/-- Settles O28. -/
theorem decDeliversPlaintext : Obligations.DecDeliversPlaintext := fun _ hvalid =>
  exec_dec_of_svalid hvalid

/-- Settles O29. -/
theorem blockCommandsNeedSchedule : Obligations.BlockCommandsNeedSchedule := by
  refine ⟨fun s hnone => ?_, fun s hvalid => ?_⟩
  · have hinvalid : ¬ s.engine.svalid = true := Bool.eq_false_iff.mp hnone
    exact ⟨exec_enc_of_not_svalid hinvalid, exec_dec_of_not_svalid hinvalid⟩
  · exact ⟨⟨_, exec_enc_of_svalid hvalid, rfl⟩, ⟨_, exec_dec_of_svalid hvalid, rfl⟩⟩

/-! ### The one-round-with-swap form -/

/-- An even round and the odd round after it, each with its swap, are one pair
(44_block_transform.md R217). -/
theorem encSwapRound_encSwapRound (X : Vec Word 1024) (K : Vec Word 40) (w : Work) (i : Fin 8) :
    encSwapRound X K (encSwapRound X K w ⟨2 * i.val, by omega⟩) ⟨2 * i.val + 1, by omega⟩ =
      encPair X K w i := by
  have h8 : 8 + 2 * (2 * i.val) = 8 + 4 * i.val := by omega
  have h9 : 9 + 2 * (2 * i.val) = 9 + 4 * i.val := by omega
  have h10 : 8 + 2 * (2 * i.val + 1) = 10 + 4 * i.val := by omega
  have h11 : 9 + 2 * (2 * i.val + 1) = 11 + 4 * i.val := by omega
  simp only [encSwapRound, encPair, h8, h9, h10, h11]

theorem rounds_eq_flatMap_pairs : rounds =
    pairs.flatMap fun i => [⟨2 * i.val, by omega⟩, ⟨2 * i.val + 1, by omega⟩] := rfl

/-- Settles O31. -/
theorem swapFormEncryptsTheSame : Obligations.SwapFormEncryptsTheSame := fun X K b => by
  simp only [encBlockSwap, encBlock, rounds_eq_flatMap_pairs, List.foldl_flatMap, List.foldl_cons,
    List.foldl_nil, encSwapRound_encSwapRound]

end Sys2Proof.Machine
end

section
/-!
PROOFS. The statement on the control command `ZEROIZE` (45_control_commands.md). The command clears the
engine, and an engine that is already that of reset stays as it is; so a second `ZEROIZE`, and one
directly after reset, change nothing.
-/

namespace Sys2Proof.Machine

theorem State.clear_of_engine_reset {s : State} (h : s.engine = Engine.reset) : s.clear = s := by
  rw [State.clear, ← h]

/-- `ZEROIZE` changes nothing where the registers are those of reset, whatever is pending or answered
(45_control_commands.md R240). -/
theorem exec_zeroize_of_engine_reset {s : State} (h : s.engine = Engine.reset) :
    exec .zeroize s = .next s := by
  rw [exec_zeroize, State.clear_of_engine_reset h]

/-- Settles O32. Clearing leaves no Schedule, so what `ENC` and `DEC` do next is the statement on block
commands without one. -/
theorem zeroizeClearsEngine : Obligations.ZeroizeClearsEngine := by
  refine ⟨decode_eq_ok_iff.mpr ⟨rfl, rfl⟩, exec_zeroize, fun s => ?_,
    exec_zeroize_of_engine_reset State.reset_engine⟩
  have hcleared : s.clear.engine = Engine.reset := s.clear_engine
  have hnone : s.clear.engine.svalid = false := Engine.reset_svalid
  obtain ⟨henc, hdec⟩ := blockCommandsNeedSchedule.1 s.clear hnone
  exact ⟨s.clear, exec_zeroize s, hcleared, exec_zeroize_of_engine_reset hcleared, henc, hdec⟩

end Sys2Proof.Machine
end

section
/-!
PROOFS. The statements on the host driver (46_host_software.md). First what `setKey` does to the machine,
in its three cases; then a block operation and the chunk loop, with a Schedule and without; then the cache.
A wrapper call reads the Schedule and `SVALID` alone and leaves them as they are, which is all that the
statements on the cache need to know of it.

`Elab.async` is off here as in the proofs before.
-/

set_option Elab.async false

namespace Sys2Proof.Machine

/-! ### Bytes of little-endian words -/

/-- Lane `l` of the little-endian word at an offset is the byte at `l` beyond it. -/
theorem lane_le32 (bytes : List Byte) (o : Nat) (l : Fin 4) :
    lane l (le32 bytes o) = bytes.getD (o + l.val) 0 := by
  rw [le32, lane_word]
  fin_cases l <;> rfl

/-- Block byte `j` of the words at an offset is the byte at `j` beyond it (20_memory.md R63). -/
theorem blockByte_blockWords (bytes : List Byte) (o : Nat) (j : Fin 16) :
    blockByte (blockWords bytes o) j = bytes.getD (o + j.val) 0 := by
  rw [blockByte, blockWords_get, lane_le32]
  congr 1
  simp only
  omega

/-- The sixteen bytes of a block, byte 0 first (10_state.md R25). -/
def blockBytes (b : Vec Word 4) : Vec Byte 16 := Vec.tabulate (blockByte b)

@[simp] theorem blockBytes_get (b : Vec Word 4) (j : Fin 16) : (blockBytes b).get j = blockByte b j :=
  Vec.get_tabulate _ j

@[simp] theorem length_blockBytes (b : Vec Word 4) : (blockBytes b).toList.length = 16 :=
  (blockBytes b).size_eq

/-- Bytes that are a block's, wherever they stand, are read as its words. -/
theorem blockWords_of_bytes {bytes : List Byte} {o : Nat} {b : Vec Word 4}
    (h : ∀ j : Fin 16, bytes.getD (o + j.val) 0 = blockByte b j) : blockWords bytes o = b :=
  Vec.ext_get fun m => eq_of_lanes fun l => by
    have hword : (⟨(4 * m.val + l.val) / 4, by omega⟩ : Fin 4) = m := Fin.ext (by simp only; omega)
    have hlane : (⟨(4 * m.val + l.val) % 4, Nat.mod_lt _ (by decide)⟩ : Fin 4) = l :=
      Fin.ext (by simp only; omega)
    have hbyte := h ⟨4 * m.val + l.val, by omega⟩
    rw [blockByte, hword, hlane, ← Nat.add_assoc] at hbyte
    rw [blockWords_get, lane_le32, hbyte]

@[simp] theorem blockWords_blockBytes (b : Vec Word 4) : blockWords (blockBytes b).toList 0 = b :=
  blockWords_of_bytes fun j => by rw [Nat.zero_add, Vec.toList_getD, blockBytes_get]

@[simp] theorem blockBytes_blockWords (b : Vec Byte 16) : blockBytes (blockWords b.toList 0) = b :=
  Vec.ext_get fun j => by
    rw [blockBytes_get, blockByte_blockWords, Nat.zero_add, Vec.toList_getD]

/-! ### Loading the key -/

/-- Issuing a write of `KEYW[m]` replaces that word and is answered `OKAY`. -/
theorem issue_writeKeyw (m : Fin 8) (v : Word) (s : State) :
    issue (ScriptLine.wr (.keyw m) v).event s = (s.writeKeyw m v).respond (.write .okay) := by
  apply issue_serve
  simp [serve, writeAt_keyw, applyWrite]

/-- Writes of key words, one after another. -/
theorem runLines_writeKeyw (f : Fin 8 → Word) (ms : List (Fin 8)) (s : State) :
    runLines (ms.map fun m => .wr (.keyw m) (f m)) s = { s with
      engine := { s.engine with keyw := ms.foldl (fun kw m => kw.set m (f m)) s.engine.keyw },
      responses := s.responses ++ List.replicate ms.length (.write .okay) } := by
  induction ms generalizing s with
  | nil => simp
  | cons m ms ih =>
    rw [List.map_cons, runLines_cons, issue_writeKeyw, ih]
    simp [State.writeKeyw, State.respond, List.replicate_succ]

/-- Of words written one after another each holds the value written to it, whatever the order. -/
theorem foldl_set_get (f : Fin 8 → Word) {ms : List (Fin 8)} {m : Fin 8} (kw : Vec Word 8)
    (h : m ∈ ms ∨ kw.get m = f m) :
    (ms.foldl (fun kw m => kw.set m (f m)) kw).get m = f m := by
  induction ms generalizing kw with
  | nil => simpa using h
  | cons n ms ih =>
    refine ih (kw.set n (f n)) ?_
    by_cases hn : n = m
    · subst hn
      exact .inr (Vec.get_set_same ..)
    · rw [Vec.get_set_ne _ _ hn]
      exact h.imp_left fun hmem => (List.mem_cons.mp hmem).resolve_left (Ne.symm hn)

/-- `LDKEY` puts the bytes in `KEYW`, in one write per word, and touches nothing else of the engine
(30_encoding.md R104). -/
theorem runLines_loadKey (bytes : List Byte) (s : State) :
    ∃ kw, (∀ j : Fin 32, j.val < bytes.length → keyByte kw j = bytes.getD j.val 0) ∧
      runLines (loadKey bytes) s = { s with
        engine := { s.engine with keyw := kw },
        responses := s.responses ++ List.replicate
          (keyRegs.filter fun m => 4 * m.val < bytes.length).length (.write .okay) } := by
  refine ⟨_, fun j hj => ?_, runLines_writeKeyw _ _ s⟩
  have hmem : (⟨j.val / 4, by omega⟩ : Fin 8) ∈
      keyRegs.filter fun m => 4 * m.val < bytes.length := by
    refine List.mem_filter.mpr ⟨?_, decide_eq_true (by simp only; omega)⟩
    exact (by decide : ∀ m, m ∈ keyRegs) _
  rw [keyByte, foldl_set_get _ _ (.inl hmem), lane_le32]
  congr 1
  simp only
  omega

/-! ### Setting the key -/

/-- The word `KSCHED <len>` writes is the command's encoding (30_encoding.md R103). -/
theorem event_ksched {len : Nat} (h : len < 256) : (ScriptLine.ksched len).event =
    .serve (commandWrite (encode (.ksched len)).toNat) := by
  have hword : (encode (.ksched len)).toNat = 0x00000001 ||| (len <<< 8) := by
    have hfits : len <<< 8 < 2 ^ 32 := by rw [Nat.shiftLeft_eq]; omega
    have hlen : len < 2 ^ 32 := by omega
    simp only [encode, BitVec.toNat_or, BitVec.toNat_shiftLeft, BitVec.toNat_ofNat,
      Nat.mod_eq_of_lt hlen, Nat.mod_eq_of_lt hfits]
    rfl
  rw [hword]
  rfl

/-- A rejected `KSCHED` raises `InvalidKey`. -/
theorem issue_ksched_of_invalid {len : Nat} (hlen : len < 256) (h : ¬ validKeyLength len = true)
    (s : State) : issue (ScriptLine.ksched len).event s =
      (s.raise .invalidKey).respond (.write .okay) := by
  have hdecode : decode (encode (.ksched len)) = .ok (.ksched len) :=
    decodeInvertsEncode _ (decide_eq_true hlen)
  rw [event_ksched hlen]
  exact issue_commandWrite ((runCommand_of_ok hdecode s).trans (exec_ksched_of_invalid h s))

/-- A key that the driver rejects without a transaction (46_host_software.md R251). -/
theorem setKey_of_rejected {key : Option (List Byte)} {length : Int}
    (h : key = none ∨ length < 0 ∨ 255 < length) (s : State) : setKey key length s = (1, s) := by
  cases key with
  | none => rfl
  | some bytes => exact if_pos (h.resolve_left nofun)

/-- A key that the engine rejects: only `ERR` changes (46_host_software.md R251, log 12). -/
theorem setKey_of_invalid {len : Nat} (hlen : len ≤ 255) (h : ¬ validKeyLength len = true)
    (bytes : List Byte) (s : State) : ∃ u, setKey (some bytes) len s = (1, u) ∧
      u.engine = { s.engine with err := 1 } := by
  have hrange : ¬ ((len : Int) < 0 ∨ 255 < (len : Int)) := by omega
  simp only [setKey, if_neg hrange, Int.toNat_natCast, if_neg h, runLines_cons, runLines_nil,
    issue_ksched_of_invalid (Nat.lt_succ_of_le hlen) h, readErr_eq]
  exact ⟨_, rfl, rfl⟩

/-- A key that is set: its bytes stand in `KEYW`, and the Schedule derived from them is published
(46_host_software.md R252). -/
theorem setKey_of_valid {len : Nat} (h : validKeyLength len = true) (bytes : List Byte) (s : State) :
    ∃ u, setKey (some bytes) len s = (0, u) ∧ u.engine.svalid = true ∧
      u.engine.schedule = deriveSchedule u.engine.keyw len ∧
      (∀ j : Fin 32, j.val < len → keyByte u.engine.keyw j = bytes.getD j.val 0) ∧
      u.responses.length = s.responses.length + (len / 4 + 2) := by
  have hlen : len ≤ 32 := (validKeyLength_iff_multiple_of_8.mp h).2.1
  have hrange : ¬ ((len : Int) < 0 ∨ 255 < (len : Int)) := by omega
  have hwrites : (keyRegs.filter fun m => 4 * m.val < len).length = len / 4 := by
    rcases validKeyLength_iff.mp h with rfl | rfl | rfl | rfl <;> rfl
  obtain ⟨kw, hbytes, hload⟩ := runLines_loadKey ((List.range len).map fun i => bytes.getD i 0) s
  simp only [List.length_map, List.length_range] at hbytes hload
  simp only [setKey, if_neg hrange, Int.toNat_natCast, if_pos h, runLines_append, hload, hwrites,
    runLines_cons, runLines_nil, event_ksched (show len < 256 by omega), issue_ksched_of_valid h,
    readErr_eq]
  refine ⟨_, rfl, rfl, rfl, fun j hj => (hbytes j hj).trans ?_, ?_⟩
  · rw [List.getD_eq_getElem _ _ (by simpa using hj)]
    simp
  · simp

/-- A key that was set had a key length. -/
theorem setKey_ok {key : Option (List Byte)} {length : Int} {s : State}
    (h : (setKey key length s).1 = 0) :
    ∃ (bytes : List Byte) (len : Nat),
      key = some bytes ∧ length = len ∧ validKeyLength len = true := by
  by_cases hrej : key = none ∨ length < 0 ∨ 255 < length
  · simp [setKey_of_rejected hrej] at h
  · push Not at hrej
    obtain ⟨hkey, hnonneg, hle⟩ := hrej
    obtain ⟨bytes, rfl⟩ := Option.ne_none_iff_exists'.mp hkey
    lift length to Nat using hnonneg
    refine ⟨bytes, length, rfl, rfl, ?_⟩
    by_contra hinvalid
    obtain ⟨u, hu, -⟩ := setKey_of_invalid (by omega) hinvalid bytes s
    simp [hu] at h

/-- Settles O51. -/
theorem setKeyRejectsBadKeys : Obligations.SetKeyRejectsBadKeys := by
  refine ⟨fun key length s h => setKey_of_rejected h s, fun key length s hlen => ⟨fun h => ?_,
    fun h => ?_⟩⟩
  · obtain ⟨u, hu, -⟩ := setKey_of_valid (validKeyLength_iff.mpr h) key s
    rw [hu]
  · obtain ⟨u, hu, hengine⟩ := setKey_of_invalid hlen (mt validKeyLength_iff.mp h) key s
    rw [hu]
    exact ⟨rfl, by rw [hengine]; rfl, by rw [hengine]⟩

/-- Settles O52. -/
theorem setKeyInstallsKeySchedule : Obligations.SetKeyInstallsKeySchedule := by
  intro key s hvalid
  obtain ⟨u, hu, hsvalid, hsched, hbytes, hcount⟩ := setKey_of_valid hvalid key s
  rw [hu]
  exact ⟨hsvalid, hsched, fun j hj => (hbytes j hj).trans (List.getD_eq_getElem _ _ hj), hcount⟩

/-! ### A block operation -/

/-- The block transform of an operation under a Schedule. -/
def BlockOp.transform (d : Schedule) : BlockOp → Vec Word 4 → Vec Word 4
  | .enc => encBlock d.xsbox d.subkey
  | .dec => decBlock d.xsbox d.subkey

/-- The operation that undoes an operation. -/
def BlockOp.inverse : BlockOp → BlockOp
  | .enc => .dec
  | .dec => .enc

@[simp] theorem BlockOp.transform_inverse (d : Schedule) (op : BlockOp) (b : Vec Word 4) :
    op.inverse.transform d (op.transform d b) = b := by
  cases op with
  | enc => exact decBlock_encBlock _ _ b
  | dec => exact encBlock_decBlock _ _ b

theorem issue_blockOp_of_svalid (op : BlockOp) {s : State} (h : s.engine.svalid = true) :
    issue op.line.event s =
      (s.deliver (op.transform s.engine.schedule s.engine.din)).respond (.write .okay) := by
  cases op with
  | enc => exact issue_commandWrite (w := encode .enc) (exec_enc_of_svalid h)
  | dec => exact issue_commandWrite (w := encode .dec) (exec_dec_of_svalid h)

theorem issue_blockOp_of_not_svalid (op : BlockOp) {s : State} (h : ¬ s.engine.svalid = true) :
    issue op.line.event s = (s.raise .noSchedule).respond (.write .okay) := by
  cases op with
  | enc => exact issue_commandWrite (w := encode .enc) (exec_enc_of_not_svalid h)
  | dec => exact issue_commandWrite (w := encode .dec) (exec_dec_of_not_svalid h)

/-- `RDBLK` gives the bytes of `DOUT` and leaves the engine alone. -/
theorem readDoutBlock_eq (s : State) : ∃ u, readDoutBlock s = (blockBytes s.engine.dout, u) ∧
    u.engine = s.engine ∧ u.pending = s.pending := by
  simp only [readDoutBlock, readDout_eq, State.respond_engine]
  exact ⟨_, rfl, rfl, rfl⟩

/-- With a Schedule the load and the command of a block operation put the transformed block in `DOUT`. -/
theorem runLines_blockOp_of_svalid (op : BlockOp) (b : Vec Byte 16) {s : State}
    (h : s.engine.svalid = true) :
    let x := blockWords b.toList 0
    let t := runLines (loadBlock b ++ [op.line]) s
    t.engine = { s.engine with din := x, dout := op.transform s.engine.schedule x, err := 0 } ∧
      t.pending = s.pending := by
  dsimp only
  rw [runLines_append, runLines_loadBlock, runLines_cons, runLines_nil, issue_blockOp_of_svalid op]
  · exact ⟨rfl, rfl⟩
  · exact h

/-- Without a Schedule they change `DIN` and `ERR` alone. -/
theorem runLines_blockOp_of_not_svalid (op : BlockOp) (b : Vec Byte 16) {s : State}
    (h : ¬ s.engine.svalid = true) :
    let t := runLines (loadBlock b ++ [op.line]) s
    t.engine = { s.engine with din := blockWords b.toList 0, err := 2 } ∧ t.pending = s.pending := by
  dsimp only
  rw [runLines_append, runLines_loadBlock, runLines_cons, runLines_nil, issue_blockOp_of_not_svalid op]
  · exact ⟨rfl, rfl⟩
  · exact h

/-- A block operation with a Schedule (46_host_software.md R253). -/
theorem blockOp_of_svalid (op : BlockOp) (b : Vec Byte 16) {s : State} (h : s.engine.svalid = true) :
    let x := blockWords b.toList 0
    let y := op.transform s.engine.schedule x
    ∃ u, blockOp op b s = (.ok (blockBytes y), u) ∧
      u.engine = { s.engine with din := x, dout := y, err := 0 } ∧ u.pending = s.pending := by
  obtain ⟨hengine, hpending⟩ := runLines_blockOp_of_svalid op b h
  simp only [blockOp, readErr_eq]
  generalize runLines (loadBlock b ++ [op.line]) s = t at hengine hpending ⊢
  obtain ⟨u, hread, hu, hup⟩ := readDoutBlock_eq (t.respond (.read .okay t.engine.status))
  rw [if_pos (by rw [hengine]), hread]
  refine ⟨u, ?_, hu.trans hengine, hup.trans hpending⟩
  rw [State.respond_engine, hengine]

/-- A block operation without a Schedule (46_host_software.md R253). -/
theorem blockOp_of_not_svalid (op : BlockOp) (b : Vec Byte 16) {s : State}
    (h : ¬ s.engine.svalid = true) : ∃ u, blockOp op b s = (.error 2, u) ∧
      u.engine = { s.engine with din := blockWords b.toList 0, err := 2 } ∧
      u.pending = s.pending := by
  obtain ⟨hengine, hpending⟩ := runLines_blockOp_of_not_svalid op b h
  simp only [blockOp, readErr_eq]
  generalize runLines (loadBlock b ++ [op.line]) s = t at hengine hpending ⊢
  have herr : t.engine.err = 2 := by rw [hengine]
  rw [herr, if_neg (by decide)]
  exact ⟨_, rfl, hengine, hpending⟩

/-- With a Schedule a block operation answers its transform of the block, byte by byte, and the inverse
operation on the answer gives the block back (44_block_transform.md R221). -/
theorem blockOp_roundTrip (op : BlockOp) (b : Vec Byte 16) {s : State} (h : s.engine.svalid = true) :
    let x := blockWords b.toList 0
    let y := op.transform s.engine.schedule x
    ∃ out u, blockOp op b s = (.ok out, u) ∧ blockWords out.toList 0 = y ∧
      (∀ j : Fin 16, out.get j = blockByte y j) ∧
      u.engine = { s.engine with din := x, dout := y, err := 0 } ∧ u.pending = s.pending ∧
      (blockOp op.inverse out u).1 = .ok b := by
  dsimp only
  obtain ⟨u, hu, hengine, hpending⟩ := blockOp_of_svalid op b h
  refine ⟨_, u, hu, blockWords_blockBytes _, blockBytes_get _, hengine, hpending, ?_⟩
  have hsched : u.engine.schedule = s.engine.schedule := by rw [hengine]; rfl
  have husvalid : u.engine.svalid = true := by rw [hengine]; exact h
  obtain ⟨v, hv, -⟩ := blockOp_of_svalid op.inverse
    (blockBytes (op.transform s.engine.schedule (blockWords b.toList 0))) husvalid
  rw [hv, hsched, blockWords_blockBytes, BlockOp.transform_inverse, blockBytes_blockWords]

/-- Settles O53. -/
theorem blockOpRoundTrip : Obligations.BlockOpRoundTrip := by
  refine ⟨fun s b h => ⟨fun j => ?_, blockOp_roundTrip .enc b h, blockOp_roundTrip .dec b h⟩,
    fun op s b h => ?_⟩
  · rw [blockByte_blockWords, Nat.zero_add, Vec.toList_getD]
  · obtain ⟨u, hu, hengine, hpending⟩ := blockOp_of_not_svalid op b (Bool.eq_false_iff.mp h)
    exact ⟨u, hu, hengine, by rw [hengine], hpending⟩

/-! ### The chunk loop -/

/-- The key words, the Schedule and `SVALID` of `b` are those of `a`. -/
def SameKey (a b : Engine) : Prop := b.keyw = a.keyw ∧ SameSchedule a b

theorem SameKey.refl (a : Engine) : SameKey a a := ⟨rfl, rfl, rfl⟩

theorem SameKey.trans {a b c : Engine} (hab : SameKey a b) (hbc : SameKey b c) : SameKey a c :=
  ⟨hbc.1.trans hab.1, hab.2.trans hbc.2⟩

/-- Whatever it writes of `DIN`, `DOUT` and `ERR`, an engine keeps its key. -/
theorem SameKey.of_block {a b : Engine} {x y : Vec Word 4} {c : BitVec 4}
    (h : b = { a with din := x, dout := y, err := c }) : SameKey a b := by
  subst h
  exact SameKey.refl a

/-- The output of the chunk loop over `n` blocks from block `c` on: each the transform of its block. -/
def BlockOp.output (d : Schedule) (op : BlockOp) (buf : List Byte) (n c : Nat) : List Byte :=
  (List.range' c n).flatMap fun i => (blockBytes (op.transform d (blockWords buf (16 * i)))).toList

theorem BlockOp.output_succ (d : Schedule) (op : BlockOp) (buf : List Byte) (n c : Nat) :
    op.output d buf (n + 1) c =
      (blockBytes (op.transform d (blockWords buf (16 * c)))).toList ++ op.output d buf n (c + 1) := rfl

@[simp] theorem BlockOp.length_output (d : Schedule) (op : BlockOp) (buf : List Byte) (n c : Nat) :
    (op.output d buf n c).length = 16 * n := by
  induction n generalizing c with
  | zero => rfl
  | succ n ih =>
    rw [BlockOp.output_succ, List.length_append, length_blockBytes, ih]
    omega

/-- Byte `j` of output block `i`. -/
theorem BlockOp.output_getD (d : Schedule) (op : BlockOp) (buf : List Byte) {n i : Nat} (c : Nat)
    (h : i < n) (j : Fin 16) : (op.output d buf n c).getD (16 * i + j.val) 0 =
      blockByte (op.transform d (blockWords buf (16 * (c + i)))) j := by
  induction n generalizing c i with
  | zero => omega
  | succ n ih =>
    rw [BlockOp.output_succ]
    cases i with
    | zero =>
      rw [List.getD_append _ _ _ _ (by simp only [length_blockBytes]; omega), Nat.mul_zero,
        Nat.zero_add, Vec.toList_getD, blockBytes_get, Nat.add_zero]
    | succ i =>
      rw [List.getD_append_right _ _ _ _ (by simp only [length_blockBytes]; omega), length_blockBytes,
        show 16 * (i + 1) + j.val - 16 = 16 * i + j.val by omega, ih (c + 1) (by omega),
        show c + 1 + i = c + (i + 1) by omega]

/-- Output block `i` is the transform of block `i`. -/
theorem BlockOp.blockWords_output (d : Schedule) (op : BlockOp) (buf : List Byte) {n i : Nat}
    (h : i < n) : blockWords (op.output d buf n 0) (16 * i) =
      op.transform d (blockWords buf (16 * i)) :=
  blockWords_of_bytes fun j => by rw [BlockOp.output_getD d op buf 0 h, Nat.zero_add]

/-- The inverse operation on the output of all the blocks of a buffer gives the buffer back. -/
theorem BlockOp.output_inverse (d : Schedule) (op : BlockOp) {buf : List Byte} {n : Nat}
    (h : buf.length = 16 * n) : op.inverse.output d (op.output d buf n 0) n 0 = buf := by
  refine List.ext_getElem (by simp [h]) fun k hk hkbuf => ?_
  have hblock : k / 16 < n := by rw [BlockOp.length_output] at hk; omega
  have hsplit : 16 * (k / 16) + k % 16 = k := Nat.div_add_mod k 16
  have hbyte := BlockOp.output_getD d op.inverse (op.output d buf n 0) 0 hblock
    ⟨k % 16, Nat.mod_lt _ (by decide)⟩
  rw [Nat.zero_add, BlockOp.blockWords_output d op buf hblock, BlockOp.transform_inverse,
    blockByte_blockWords] at hbyte
  simp only [hsplit] at hbyte
  rwa [List.getD_eq_getElem _ _ hk, List.getD_eq_getElem _ _ hkbuf] at hbyte

/-- The words of a chunk are those of its block in the buffer. -/
theorem blockWords_chunk (buf : List Byte) (c : Nat) :
    blockWords (chunk buf c).toList 0 = blockWords buf (16 * c) :=
  blockWords_of_bytes fun j => by
    rw [Nat.zero_add, Vec.toList_getD, chunk, Vec.get_tabulate, blockByte_blockWords]
    rfl

/-- The chunk loop with a Schedule transforms every block (46_host_software.md R257, R258). -/
theorem chunkLoop_of_svalid (op : BlockOp) (buf : List Byte) (n c : Nat) (out : List Byte) {s : State}
    (h : s.engine.svalid = true) :
    ∃ u, chunkLoop op buf n c out s = (.done (out ++ op.output s.engine.schedule buf n c), u) ∧
      SameKey s.engine u.engine := by
  induction n generalizing c out s with
  | zero => exact ⟨s, by simp [chunkLoop, BlockOp.output], SameKey.refl _⟩
  | succ n ih =>
    obtain ⟨t, ht, htengine, -⟩ := blockOp_of_svalid op (chunk buf c) h
    have hst : SameKey s.engine t.engine := SameKey.of_block htengine
    have ⟨_, hsched, hsvalid⟩ := hst
    obtain ⟨u, hu, htu⟩ := ih (c + 1) (out ++ (blockBytes (op.transform s.engine.schedule
      (blockWords (chunk buf c).toList 0))).toList) (hsvalid.trans h)
    refine ⟨u, ?_, hst.trans htu⟩
    rw [chunkLoop, ht]
    simp only [hu]
    rw [hsched, blockWords_chunk, BlockOp.output_succ, List.append_assoc]

/-- The chunk loop without a Schedule stops at its first block (46_host_software.md R253, log 13). -/
theorem chunkLoop_of_not_svalid (op : BlockOp) (buf : List Byte) (n c : Nat) (out : List Byte)
    {s : State} (h : ¬ s.engine.svalid = true) :
    ∃ u, chunkLoop op buf (n + 1) c out s = (.blockFailure 2, u) ∧ SameKey s.engine u.engine := by
  obtain ⟨u, hu, hengine, -⟩ := blockOp_of_not_svalid op (chunk buf c) h
  exact ⟨u, by rw [chunkLoop, hu], SameKey.of_block hengine⟩

/-- A call that leaves the key, the Schedule and `SVALID` as they are, and whose result depends on the
Schedule and `SVALID` alone. -/
structure UsesScheduleAlone (w : State → WrapResult × State) : Prop where
  /-- It leaves them as they are. -/
  sameKey (s : State) : SameKey s.engine (w s).2.engine
  /-- It reads nothing else. -/
  result_congr {s t : State} : SameSchedule s.engine t.engine → (w s).1 = (w t).1

theorem chunkLoop_usesScheduleAlone (op : BlockOp) (buf : List Byte) (n c : Nat) (out : List Byte) :
    UsesScheduleAlone (chunkLoop op buf n c out) where
  sameKey s := by
    by_cases h : s.engine.svalid = true
    · obtain ⟨u, hu, hkey⟩ := chunkLoop_of_svalid op buf n c out h
      rwa [hu]
    · cases n with
      | zero => exact SameKey.refl _
      | succ n =>
        obtain ⟨u, hu, hkey⟩ := chunkLoop_of_not_svalid op buf n c out h
        rwa [hu]
  result_congr {s t} hst := by
    obtain ⟨hsched, hsvalid⟩ := hst
    by_cases h : s.engine.svalid = true
    · obtain ⟨u, hu, -⟩ := chunkLoop_of_svalid op buf n c out h
      obtain ⟨v, hv, -⟩ := chunkLoop_of_svalid op buf n c out (hsvalid.trans h)
      rw [hu, hv, hsched]
    · cases n with
      | zero => rfl
      | succ n =>
        obtain ⟨u, hu, -⟩ := chunkLoop_of_not_svalid op buf n c out h
        obtain ⟨v, hv, -⟩ := chunkLoop_of_not_svalid op buf n c out (s := t) (by rwa [hsvalid])
        rw [hu, hv]

/-! ### The wrapper -/

/-- The number of blocks of the aligned length (46_host_software.md R254). -/
theorem alignedLength_div (length : Nat) :
    alignedLength length / Config.BLOCK_BYTES = (length + 15) / 16 :=
  Nat.mul_div_cancel _ (by decide)

theorem length_padded (input : List Byte) (length : Nat) :
    (padded input length).length = 16 * ((length + 15) / 16) := by
  rw [padded, List.length_map, List.length_range, Nat.mul_comm]
  rfl

/-- The data to encrypt is the input and then the filler (46_host_software.md R255). -/
theorem padded_eq_append (input : List Byte) : padded input input.length =
    input ++ List.replicate ((input.length + 15) / 16 * 16 - input.length) 0xFF := by
  refine List.ext_getElem ?_ fun k _ _ => ?_
  · rw [length_padded, List.length_append, List.length_replicate]
    omega
  · by_cases hk : k < input.length
    · simp [padded, hk]
    · rw [List.getElem_append_right (Nat.le_of_not_lt hk)]
      simp [padded, hk, Config.PAD_BYTE]

theorem encrypt_of_svalid (input : List Byte) (length cap : Nat) {s : State}
    (h : s.engine.svalid = true) :
    ∃ u, encrypt true input length cap s = (.done (BlockOp.enc.output s.engine.schedule
      (padded input length) (min ((length + 15) / 16) (cap / 16)) 0), u) ∧
      SameKey s.engine u.engine := by
  rw [encrypt, if_neg (by simp), alignedLength_div]
  exact chunkLoop_of_svalid .enc _ _ 0 [] h

theorem decrypt_of_svalid (input : List Byte) (length cap : Nat) {s : State}
    (h : s.engine.svalid = true) :
    ∃ u, decrypt input length cap s = (.done (BlockOp.dec.output s.engine.schedule
      input (min (length / 16) (cap / 16)) 0), u) ∧ SameKey s.engine u.engine :=
  chunkLoop_of_svalid .dec input _ 0 [] h

/-- The chunk loop does, and a failed allocation ends the call before it issues anything
(46_host_software.md R256). -/
theorem encrypt_usesScheduleAlone (ok : Bool) (input : List Byte) (length cap : Nat) :
    UsesScheduleAlone (encrypt ok input length cap) := by
  by_cases hfail : length ≠ alignedLength length ∧ ok = false
  · have hw : encrypt ok input length cap = fun s => (.allocationFailure, s) :=
      funext fun s => if_pos hfail
    rw [hw]
    exact ⟨fun s => SameKey.refl _, fun _ => rfl⟩
  · have hw : encrypt ok input length cap = chunkLoop .enc (padded input length)
        (min (alignedLength length / Config.BLOCK_BYTES) (cap / Config.BLOCK_BYTES)) 0 [] :=
      funext fun s => if_neg hfail
    rw [hw]
    exact chunkLoop_usesScheduleAlone ..

theorem decrypt_usesScheduleAlone (input : List Byte) (length cap : Nat) :
    UsesScheduleAlone (decrypt input length cap) := chunkLoop_usesScheduleAlone .dec input _ 0 []

/-- Settles O54. -/
theorem wrapperReturnsWholeBlocks : Obligations.WrapperReturnsWholeBlocks := by
  refine ⟨fun s input cap h => ⟨?_, ?_⟩, fun s input cap hlen => ?_⟩
  · obtain ⟨u, hu, -⟩ := encrypt_of_svalid input input.length cap h
    refine ⟨_, u, hu, BlockOp.length_output .., fun i hi => ?_⟩
    rw [BlockOp.blockWords_output _ _ _ hi, padded_eq_append]
    rfl
  · obtain ⟨u, hu, -⟩ := decrypt_of_svalid input input.length cap h
    exact ⟨_, u, hu, BlockOp.length_output .., fun i hi => BlockOp.blockWords_output _ _ _ hi⟩
  · have hunaligned : input.length ≠ alignedLength input.length := by
      change input.length ≠ (input.length + 15) / 16 * 16
      omega
    exact if_pos ⟨hunaligned, rfl⟩

/-- Settles O55. -/
theorem wrapperLeavesScheduleAlone : Obligations.WrapperLeavesScheduleAlone := by
  intro s ok input length cap u hu
  rcases List.mem_pair.mp hu with rfl | rfl
  · exact (encrypt_usesScheduleAlone ok input length cap).sameKey s
  · exact (decrypt_usesScheduleAlone input length cap).sameKey s

/-- Settles O56. -/
theorem decryptReturnsInputAndFiller : Obligations.DecryptReturnsInputAndFiller := by
  intro s input cap h hcap
  have hblocks : min ((input.length + 15) / 16) (cap / 16) = (input.length + 15) / 16 := by omega
  obtain ⟨u, hu, -, hsched, hsvalid⟩ := encrypt_of_svalid input input.length cap h
  rw [hblocks] at hu
  refine ⟨_, u, hu, ?_⟩
  obtain ⟨v, hv, -⟩ := decrypt_of_svalid (BlockOp.enc.output s.engine.schedule
    (padded input input.length) ((input.length + 15) / 16) 0)
    (16 * ((input.length + 15) / 16)) cap (hsvalid.trans h)
  have hback : min (16 * ((input.length + 15) / 16) / 16) (cap / 16) = (input.length + 15) / 16 := by
    omega
  rw [BlockOp.length_output, hv, hback, hsched, ← padded_eq_append]
  exact congrArg WrapResult.done (BlockOp.output_inverse _ .enc (length_padded input _))

/-! ### The cache -/

/-- A call with a key that the cache does not hold sets the key and records the outcome
(46_host_software.md R264). -/
theorem withKey_of_not_holds {key : Option (List Byte)} {length : Int} {d : DriverState}
    (h : d.cache.holds key length = false) : withKey key length d =
      ((setKey key length d.machine).1, ⟨(setKey key length d.machine).2,
        if (setKey key length d.machine).1 = 0
        then ⟨true, (key.getD []).take length.toNat, length⟩ else Cache.empty⟩) := by
  rcases withKey_cases key length d with ⟨hc, -⟩ | ⟨-, hs, hw⟩ | ⟨-, hs, hw⟩
  · rw [h] at hc
    cases hc
  · rw [hw, hs, if_pos rfl]
  · rw [hw, if_neg hs]

/-- A call with a key that the cache holds issues nothing (46_host_software.md R263). -/
theorem withKey_of_holds {key : Option (List Byte)} {length : Int} {d : DriverState}
    (h : d.cache.holds key length = true) : withKey key length d = (0, d) := if_pos h

/-- Settles O57. -/
theorem cacheReusesMatchingKey : Obligations.CacheReusesMatchingKey := by
  refine ⟨fun key length d d' h => withKey_of_holds (withKey_ok_holds h),
    fun b₁ n₁ d d' h => ?_, fun key length d h => withKey_of_not_holds ?_,
    fun key length d h => ?_, fun key length d h => ?_⟩
  · obtain ⟨hfilled, hlength, hkey⟩ := Cache.holds_some_iff.mp (withKey_ok_holds h)
    refine ⟨fun b₂ hb =>
        withKey_of_holds (Cache.holds_some_iff.mpr ⟨hfilled, hlength, hkey.trans hb.symm⟩),
      fun b₂ hb => withKey_of_not_holds ?_, fun key n₂ hn => withKey_of_not_holds ?_,
      fun n₂ => withKey_of_not_holds rfl⟩
    · refine Bool.eq_false_iff.mpr fun hc => hb ?_
      obtain ⟨-, -, hkey₂⟩ := Cache.holds_some_iff.mp hc
      exact hkey₂.symm.trans hkey
    · cases key with
      | none => rfl
      | some b₂ =>
        refine Bool.eq_false_iff.mpr fun hc => hn ?_
        obtain ⟨-, hlength₂, -⟩ := Cache.holds_some_iff.mp hc
        exact hlength₂.symm.trans hlength
  · cases key with
    | none => rfl
    | some bytes =>
      refine Bool.eq_false_iff.mpr fun hc => ?_
      obtain ⟨hfilled, -⟩ := Cache.holds_some_iff.mp hc
      rw [h] at hfilled
      cases hfilled
  · rw [withKey_of_not_holds h]
    exact ⟨rfl, rfl⟩
  · rcases withKey_cases key length d with ⟨-, hw⟩ | ⟨-, -, hw⟩ | ⟨-, -, hw⟩
    · rw [hw] at h
      exact absurd rfl h
    · rw [hw] at h
      exact absurd rfl h
    · rw [hw]

/-- The invariant speaks of the machine through its Schedule and `SVALID` alone. -/
theorem CacheInv.of_sameSchedule {d d' : DriverState} (h : CacheInv d) (hcache : d'.cache = d.cache)
    (hsame : SameSchedule d.machine.engine d'.machine.engine) : CacheInv d' := by
  intro hfilled
  rw [hcache] at hfilled
  obtain ⟨len, kw, hlength, hvalid, hbytes, hsvalid, hsched⟩ := h hfilled
  obtain ⟨hs, hv⟩ := hsame
  exact ⟨len, kw, hcache ▸ hlength, hvalid, hcache ▸ hbytes, hv.trans hsvalid, hs.trans hsched⟩

theorem cacheInv_of_empty (s : State) : CacheInv ⟨s, Cache.empty⟩ := nofun

/-- The first `len` bytes of a key are those of the key. -/
theorem getD_take (bytes : List Byte) {len j : Nat} (h : j < len) :
    (bytes.take len).getD j 0 = bytes.getD j 0 := by
  simp [List.getD_eq_getElem?_getD, h]

/-- `withKey` keeps the invariant (46_host_software.md R262 to R264). -/
theorem withKey_keeps_cacheInv {d : DriverState} (h : CacheInv d) (key : Option (List Byte))
    (length : Int) : CacheInv (withKey key length d).2 := by
  rcases withKey_cases key length d with ⟨-, hw⟩ | ⟨-, hs, hw⟩ | ⟨-, -, hw⟩
  · rwa [hw]
  · obtain ⟨bytes, len, rfl, rfl, hvalid⟩ := setKey_ok hs
    obtain ⟨u, hu, hsvalid, hsched, hbytes, -⟩ := setKey_of_valid hvalid bytes d.machine
    rw [hw, hu]
    exact fun _ => ⟨len, u.engine.keyw, rfl, hvalid,
      fun j hj => (hbytes j hj).trans (getD_take bytes hj).symm, hsvalid, hsched⟩
  · rw [hw]
    exact cacheInv_of_empty _

/-- Under the invariant `withKey` answers what setting the key answers, and leaves the same Schedule,
whether the cache held the key or not (46_host_software.md R265). -/
theorem withKey_agrees_setKey {d : DriverState} (h : CacheInv d) (key : Option (List Byte))
    (length : Int) : (withKey key length d).1 = (setKey key length d.machine).1 ∧
      SameSchedule (setKey key length d.machine).2.engine (withKey key length d).2.machine.engine := by
  cases hc : d.cache.holds key length with
  | false =>
    rw [withKey_of_not_holds hc]
    exact ⟨rfl, rfl, rfl⟩
  | true =>
    rw [withKey_of_holds hc]
    obtain _ | bytes := key
    · cases hc
    obtain ⟨hfilled, hlength, hkey⟩ := Cache.holds_some_iff.mp hc
    obtain ⟨len, kw, hlen, hvalid, hbytes, hsvalid, hsched⟩ := h hfilled
    obtain rfl : length = len := hlength.symm.trans hlen
    obtain ⟨u, hu, husvalid, husched, hubytes, -⟩ := setKey_of_valid hvalid bytes d.machine
    rw [hu]
    refine ⟨rfl, ?_, hsvalid.trans husvalid.symm⟩
    rw [hsched, husched]
    refine scheduleDependsOnKeyBytesAlone kw u.engine.keyw len hvalid fun j hj => ?_
    rw [hbytes j hj, hubytes j hj, hkey, Int.toNat_natCast, getD_take bytes hj]

/-- A wrapper call under a key through the cache: the form that the two cached calls share
(46_host_software.md R263). -/
def cachedCall (w : State → WrapResult × State) (key : Option (List Byte)) (length : Int)
    (d : DriverState) : CachedResult × DriverState :=
  let k := withKey key length d
  if k.1 = ErrCode.ok.code then (.wrapped (w k.2.machine).1, ⟨(w k.2.machine).2, k.2.cache⟩)
  else (.keyFailure k.1, k.2)

theorem cachedEncrypt_eq (key : Option (List Byte)) (length : Int) (ok : Bool) (input : List Byte)
    (n cap : Nat) (d : DriverState) : cachedEncrypt key length ok input n cap d =
      cachedCall (encrypt ok input n cap) key length d := rfl

theorem cachedDecrypt_eq (key : Option (List Byte)) (length : Int) (input : List Byte)
    (n cap : Nat) (d : DriverState) : cachedDecrypt key length input n cap d =
      cachedCall (decrypt input n cap) key length d := rfl

theorem cachedCall_of_ok {w : State → WrapResult × State} {key : Option (List Byte)} {length : Int}
    {d : DriverState} (h : (withKey key length d).1 = 0) : cachedCall w key length d =
      (.wrapped (w (withKey key length d).2.machine).1,
        ⟨(w (withKey key length d).2.machine).2, (withKey key length d).2.cache⟩) := if_pos h

theorem cachedCall_of_failure {w : State → WrapResult × State} {key : Option (List Byte)}
    {length : Int} {d : DriverState} (h : ¬ (withKey key length d).1 = 0) :
    cachedCall w key length d = (.keyFailure (withKey key length d).1, (withKey key length d).2) :=
  if_neg h

section
variable {w : State → WrapResult × State} (hw : UsesScheduleAlone w) {d : DriverState}
  (hd : CacheInv d)
include hw hd

theorem cachedCall_keeps_cacheInv (key : Option (List Byte)) (length : Int) :
    CacheInv (cachedCall w key length d).2 := by
  have hkey : CacheInv (withKey key length d).2 := withKey_keeps_cacheInv hd key length
  by_cases h : (withKey key length d).1 = 0
  · rw [cachedCall_of_ok h]
    exact hkey.of_sameSchedule rfl (hw.sameKey _).2
  · rwa [cachedCall_of_failure h]

/-- A cached call gives what setting the key and then calling the wrapper gives
(46_host_software.md R265). -/
theorem cachedCall_result (key : Option (List Byte)) (length : Int) :
    (cachedCall w key length d).1 =
      if (setKey key length d.machine).1 = 0 then .wrapped (w (setKey key length d.machine).2).1
      else .keyFailure (setKey key length d.machine).1 := by
  obtain ⟨hcode, hsame⟩ := withKey_agrees_setKey hd key length
  split_ifs with h
  · rw [cachedCall_of_ok (hcode.trans h), hw.result_congr hsame]
  · rw [cachedCall_of_failure (by rwa [hcode]), hcode]

/-- After a cached call that could set its key, a second one with this key calls the wrapper at once, and
the wrapper's result is that under the key set explicitly (46_host_software.md R264, R265). -/
theorem cachedCall_cachedCall {w' : State → WrapResult × State} (hw' : UsesScheduleAlone w')
    {key : Option (List Byte)} {length : Int} (hset : (setKey key length d.machine).1 = 0) :
    let first := (cachedCall w key length d).2
    cachedCall w' key length first = (.wrapped (w' (setKey key length d.machine).2).1,
      ⟨(w' first.machine).2, first.cache⟩) := by
  dsimp only
  obtain ⟨hcode, hsame⟩ := withKey_agrees_setKey hd key length
  have hok : (withKey key length d).1 = 0 := hcode.trans hset
  rw [cachedCall_of_ok hok]
  generalize hk : (withKey key length d).2 = k at hsame ⊢
  have hfirst : k.cache.holds key length = true := withKey_ok_holds (d := d) (Prod.ext hok hk)
  have hreuse : withKey key length ⟨(w k.machine).2, k.cache⟩ = (0, ⟨(w k.machine).2, k.cache⟩) :=
    withKey_of_holds hfirst
  rw [cachedCall_of_ok (by rw [hreuse]), hreuse,
    hw'.result_congr (hsame.trans (hw.sameKey k.machine).2)]

end

/-- Settles O58. -/
theorem cachedCallEqualsExplicitKey : Obligations.CachedCallEqualsExplicitKey := by
  simp only [Obligations.CachedCallEqualsExplicitKey, cachedEncrypt_eq, cachedDecrypt_eq]
  refine ⟨fun d key length ok input n cap hd =>
    ⟨cachedCall_result (encrypt_usesScheduleAlone ..) hd key length,
      cachedCall_result (decrypt_usesScheduleAlone ..) hd key length⟩,
    fun d key ok ok' in1 in2 n1 n2 cap1 cap2 hd hvalid first hfirst => ?_⟩
  have hset : (setKey (some key) key.length d.machine).1 = 0 := by
    obtain ⟨u, hu, -⟩ := setKey_of_valid hvalid key d.machine
    rw [hu]
  obtain ⟨w, hw, rfl⟩ : ∃ w, UsesScheduleAlone w ∧
      first = (cachedCall w (some key) key.length d).2 := by
    rcases List.mem_pair.mp hfirst with rfl | rfl
    · exact ⟨_, encrypt_usesScheduleAlone .., rfl⟩
    · exact ⟨_, decrypt_usesScheduleAlone .., rfl⟩
  exact ⟨cachedCall_cachedCall hw hd (encrypt_usesScheduleAlone ..) hset,
    cachedCall_cachedCall hw hd (decrypt_usesScheduleAlone ..) hset⟩

/-- Settles O60. -/
theorem cachedCallsKeepCacheInvariant : Obligations.CachedCallsKeepCacheInvariant := by
  simp only [Obligations.CachedCallsKeepCacheInvariant, cachedEncrypt_eq, cachedDecrypt_eq]
  exact ⟨cacheInv_of_empty, fun d hd => ⟨withKey_keeps_cacheInv hd, fun key length ok input n cap =>
    ⟨cachedCall_keeps_cacheInv (encrypt_usesScheduleAlone ok input n cap) hd key length,
      cachedCall_keeps_cacheInv (decrypt_usesScheduleAlone input n cap) hd key length⟩,
    cacheInv_of_empty _⟩⟩

end Sys2Proof.Machine
end

section
/-!
PROOFS. The statement on errors (60_exceptions.md): a command that ends with `ERR` not 0 has raised, and
raising writes `ERR` alone. It follows from what a command can do: each of its other ends writes `ERR` = 0.
-/

namespace Sys2Proof.Machine

/-- Raising replaces `ERR` by the value it then has, and nothing else (60_exceptions.md R288). -/
theorem State.raise_eq_replace_err (c : ErrCode) (s : State) :
    s.raise c = { s with engine := { s.engine with err := (s.raise c).engine.err } } := rfl

/-- A command that leaves `ERR` not 0 has raised: publishing, delivering and clearing end with 0. -/
theorem exec_eq_raise_of_err_ne_zero {i : Instr} {s t : State} (h : exec i s = .next t)
    (herr : t.engine.err ≠ 0) : ∃ c, t = s.raise c := by
  rcases exec_cases h with ⟨c, _, _, ht⟩ | ⟨len, _, _, rfl⟩ | ⟨b, _, _, rfl⟩ | ⟨_, rfl⟩
  · exact ⟨c, ht⟩
  · exact absurd (State.publish_err _ s) herr
  · exact absurd (State.deliver_err b s) herr
  · exact absurd Engine.reset_err herr

/-- So has a command word, whether it decodes or not. -/
theorem runCommand_eq_raise_of_err_ne_zero {w : Word} {s t : State} (h : runCommand w s = .next t)
    (herr : t.engine.err ≠ 0) : ∃ c, t = s.raise c := by
  rcases runCommand_cases h with ⟨i, _, hi⟩ | ⟨_, _, ht⟩
  · exact exec_eq_raise_of_err_ne_zero hi herr
  · exact ⟨.illegalCommand, ht⟩

/-- Settles O34. -/
theorem errorsAreAllOrNothing : Obligations.ErrorsAreAllOrNothing := by
  intro w s
  obtain ⟨t, ht⟩ := runCommand_total w s
  refine ⟨t, ht, fun herr => ?_⟩
  obtain ⟨c, rfl⟩ := runCommand_eq_raise_of_err_ne_zero ht herr
  exact State.raise_eq_replace_err c s

end Sys2Proof.Machine
end

section
/-!
PROOFS. The statement on the reset event and the idle step (70_reset_and_hazards.md). Beside `step_serve`,
the equations of a step for the other two forms of what is pending.
-/

namespace Sys2Proof.Machine

/-- A pending reset clears the engine and is answered by nothing (70_reset_and_hazards.md R310, log 6). -/
theorem step_reset {s : State} {rest : List Event} (h : s.pending = .reset :: rest) :
    step s = .next { s.clear with pending := rest } := by
  simp [step, takeEvent, h]

/-- The idle step, the model's choice (log 2). -/
theorem step_idle {s : State} (h : s.pending = []) : step s = .next s := by
  simp [step, takeEvent, h]

/-- Settles O43. -/
theorem resetAndIdleSteps : Obligations.ResetAndIdleSteps := by
  refine ⟨fun s rest hreset => ?_, fun s hidle => step_idle hidle⟩
  simp only [step_reset hreset, State.clear_engine, State.clear_responses]

end Sys2Proof.Machine
end
